-- ==== Sys2Proof/Word.lean ====
section
/-! DEFINITION. The two word types of the core: the 8-bit data byte and the 16-bit address (rule R6 of spec/00_scope.md). -/

namespace Sys2Proof

/-- An 8-bit value: a register, an operand, a byte of memory (R6). -/
abbrev Byte := BitVec 8

/-- A 16-bit value: PC, an address, a little-endian operand (R6). -/
abbrev Word := BitVec 16

end Sys2Proof
end

