-- ==== Sys2Proof/Syntax.lean ====
section
/-! DEFINITION. The instructions: one constructor of Instr per opcode byte of spec/opcode_table.json (R101, R115, R116).
A field is a whole byte, or the 16-bit little-endian address of an absolute or indirect mode (R101). -/

namespace Sys2Proof

/-- The 56 mnemonics (R116). -/
inductive Mnemonic where
  | adc | and | asl | bcc | bcs | beq | bit | bmi | bne | bpl | brk | bvc | bvs | clc
  | cld | cli | clv | cmp | cpx | cpy | dec | dex | dey | eor | inc | inx | iny | jmp
  | jsr | lda | ldx | ldy | lsr | nop | ora | pha | php | pla | plp | rol | ror | rti
  | rts | sbc | sec | sed | sei | sta | stx | sty | tax | tay | tsx | txa | txs | tya
deriving DecidableEq, Repr

/-- The 13 addressing modes (R101). -/
inductive Mode where
  | imp | acc | imm | zp | zpx | zpy | rel | abs | absx | absy | ind | izx | izy
deriving DecidableEq, Repr

/-- A memory operand: the modes that form an effective address of data (R104-R109). -/
inductive Addr where
  | zp (z : Byte) | zpx (z : Byte) | zpy (z : Byte)
  | abs (w : Word) | absx (w : Word) | absy (w : Word)
  | izx (z : Byte) | izy (z : Byte)
deriving DecidableEq, Repr

/-- The operand of an instruction that only reads it: an immediate value or memory (R113). -/
inductive Source where
  | imm (v : Byte)
  | mem (a : Addr)
deriving DecidableEq, Repr

/-- The operand of an instruction that rewrites it: the accumulator or memory (R112, R160). -/
inductive Target where
  | acc
  | mem (a : Addr)
deriving DecidableEq, Repr

/-- Every operand form of R101. -/
inductive Operand where
  | imp
  | acc
  | imm (v : Byte)
  | mem (a : Addr)
  | ind (w : Word)
  | rel (d : Byte)
deriving DecidableEq, Repr

/-- The addressing mode of a memory operand. -/
def Addr.mode : Addr → Mode
  | .zp _ => .zp | .zpx _ => .zpx | .zpy _ => .zpy
  | .abs _ => .abs | .absx _ => .absx | .absy _ => .absy
  | .izx _ => .izx | .izy _ => .izy

/-- The addressing mode of an operand. -/
def Operand.mode : Operand → Mode
  | .imp => .imp | .acc => .acc | .imm _ => .imm | .mem a => a.mode | .ind _ => .ind | .rel _ => .rel

/-- The documented instructions, in the order of the spec's family files. -/
inductive Instr where
  -- spec/41_load_store.md
  | ldaImm (v : Byte) | ldaZp (z : Byte) | ldaZpx (z : Byte) | ldaAbs (w : Word) | ldaAbsx (w : Word) | ldaAbsy (w : Word) | ldaIzx (z : Byte) | ldaIzy (z : Byte)
  | ldxImm (v : Byte) | ldxZp (z : Byte) | ldxZpy (z : Byte) | ldxAbs (w : Word) | ldxAbsy (w : Word)
  | ldyImm (v : Byte) | ldyZp (z : Byte) | ldyZpx (z : Byte) | ldyAbs (w : Word) | ldyAbsx (w : Word)
  | staZp (z : Byte) | staZpx (z : Byte) | staAbs (w : Word) | staAbsx (w : Word) | staAbsy (w : Word) | staIzx (z : Byte) | staIzy (z : Byte)
  | stxZp (z : Byte) | stxZpy (z : Byte) | stxAbs (w : Word)
  | styZp (z : Byte) | styZpx (z : Byte) | styAbs (w : Word)
  -- spec/42_arith_logic.md
  | adcImm (v : Byte) | adcZp (z : Byte) | adcZpx (z : Byte) | adcAbs (w : Word) | adcAbsx (w : Word) | adcAbsy (w : Word) | adcIzx (z : Byte) | adcIzy (z : Byte)
  | sbcImm (v : Byte) | sbcZp (z : Byte) | sbcZpx (z : Byte) | sbcAbs (w : Word) | sbcAbsx (w : Word) | sbcAbsy (w : Word) | sbcIzx (z : Byte) | sbcIzy (z : Byte)
  | andImm (v : Byte) | andZp (z : Byte) | andZpx (z : Byte) | andAbs (w : Word) | andAbsx (w : Word) | andAbsy (w : Word) | andIzx (z : Byte) | andIzy (z : Byte)
  | oraImm (v : Byte) | oraZp (z : Byte) | oraZpx (z : Byte) | oraAbs (w : Word) | oraAbsx (w : Word) | oraAbsy (w : Word) | oraIzx (z : Byte) | oraIzy (z : Byte)
  | eorImm (v : Byte) | eorZp (z : Byte) | eorZpx (z : Byte) | eorAbs (w : Word) | eorAbsx (w : Word) | eorAbsy (w : Word) | eorIzx (z : Byte) | eorIzy (z : Byte)
  -- spec/43_shift_rotate.md
  | aslAcc | aslZp (z : Byte) | aslZpx (z : Byte) | aslAbs (w : Word) | aslAbsx (w : Word)
  | lsrAcc | lsrZp (z : Byte) | lsrZpx (z : Byte) | lsrAbs (w : Word) | lsrAbsx (w : Word)
  | rolAcc | rolZp (z : Byte) | rolZpx (z : Byte) | rolAbs (w : Word) | rolAbsx (w : Word)
  | rorAcc | rorZp (z : Byte) | rorZpx (z : Byte) | rorAbs (w : Word) | rorAbsx (w : Word)
  -- spec/44_inc_dec.md
  | incZp (z : Byte) | incZpx (z : Byte) | incAbs (w : Word) | incAbsx (w : Word)
  | decZp (z : Byte) | decZpx (z : Byte) | decAbs (w : Word) | decAbsx (w : Word)
  | inx
  | iny
  | dex
  | dey
  -- spec/45_compare_bit.md
  | cmpImm (v : Byte) | cmpZp (z : Byte) | cmpZpx (z : Byte) | cmpAbs (w : Word) | cmpAbsx (w : Word) | cmpAbsy (w : Word) | cmpIzx (z : Byte) | cmpIzy (z : Byte)
  | cpxImm (v : Byte) | cpxZp (z : Byte) | cpxAbs (w : Word)
  | cpyImm (v : Byte) | cpyZp (z : Byte) | cpyAbs (w : Word)
  | bitZp (z : Byte) | bitAbs (w : Word)
  -- spec/46_branch.md
  | bpl (d : Byte)
  | bmi (d : Byte)
  | bvc (d : Byte)
  | bvs (d : Byte)
  | bcc (d : Byte)
  | bcs (d : Byte)
  | bne (d : Byte)
  | beq (d : Byte)
  -- spec/47_jump_stack.md
  | jmpAbs (w : Word) | jmpInd (w : Word)
  | jsr (w : Word)
  | rts
  | pha
  | php
  | pla
  | plp
  -- spec/48_brk_rti.md
  | brk
  | rti
  -- spec/49_transfer_flag_nop.md
  | tax
  | tay
  | txa
  | tya
  | tsx
  | txs
  | clc
  | cld
  | cli
  | clv
  | sec
  | sed
  | sei
  | nop
deriving DecidableEq, Repr

/-- The mnemonic of an instruction (R116). -/
def Instr.mnemonic : Instr → Mnemonic
  | .ldaImm _ | .ldaZp _ | .ldaZpx _ | .ldaAbs _ | .ldaAbsx _ | .ldaAbsy _ | .ldaIzx _ | .ldaIzy _ => .lda
  | .ldxImm _ | .ldxZp _ | .ldxZpy _ | .ldxAbs _ | .ldxAbsy _ => .ldx
  | .ldyImm _ | .ldyZp _ | .ldyZpx _ | .ldyAbs _ | .ldyAbsx _ => .ldy
  | .staZp _ | .staZpx _ | .staAbs _ | .staAbsx _ | .staAbsy _ | .staIzx _ | .staIzy _ => .sta
  | .stxZp _ | .stxZpy _ | .stxAbs _ => .stx
  | .styZp _ | .styZpx _ | .styAbs _ => .sty
  | .adcImm _ | .adcZp _ | .adcZpx _ | .adcAbs _ | .adcAbsx _ | .adcAbsy _ | .adcIzx _ | .adcIzy _ => .adc
  | .sbcImm _ | .sbcZp _ | .sbcZpx _ | .sbcAbs _ | .sbcAbsx _ | .sbcAbsy _ | .sbcIzx _ | .sbcIzy _ => .sbc
  | .andImm _ | .andZp _ | .andZpx _ | .andAbs _ | .andAbsx _ | .andAbsy _ | .andIzx _ | .andIzy _ => .and
  | .oraImm _ | .oraZp _ | .oraZpx _ | .oraAbs _ | .oraAbsx _ | .oraAbsy _ | .oraIzx _ | .oraIzy _ => .ora
  | .eorImm _ | .eorZp _ | .eorZpx _ | .eorAbs _ | .eorAbsx _ | .eorAbsy _ | .eorIzx _ | .eorIzy _ => .eor
  | .aslAcc | .aslZp _ | .aslZpx _ | .aslAbs _ | .aslAbsx _ => .asl
  | .lsrAcc | .lsrZp _ | .lsrZpx _ | .lsrAbs _ | .lsrAbsx _ => .lsr
  | .rolAcc | .rolZp _ | .rolZpx _ | .rolAbs _ | .rolAbsx _ => .rol
  | .rorAcc | .rorZp _ | .rorZpx _ | .rorAbs _ | .rorAbsx _ => .ror
  | .incZp _ | .incZpx _ | .incAbs _ | .incAbsx _ => .inc
  | .decZp _ | .decZpx _ | .decAbs _ | .decAbsx _ => .dec
  | .inx => .inx
  | .iny => .iny
  | .dex => .dex
  | .dey => .dey
  | .cmpImm _ | .cmpZp _ | .cmpZpx _ | .cmpAbs _ | .cmpAbsx _ | .cmpAbsy _ | .cmpIzx _ | .cmpIzy _ => .cmp
  | .cpxImm _ | .cpxZp _ | .cpxAbs _ => .cpx
  | .cpyImm _ | .cpyZp _ | .cpyAbs _ => .cpy
  | .bitZp _ | .bitAbs _ => .bit
  | .bpl _ => .bpl
  | .bmi _ => .bmi
  | .bvc _ => .bvc
  | .bvs _ => .bvs
  | .bcc _ => .bcc
  | .bcs _ => .bcs
  | .bne _ => .bne
  | .beq _ => .beq
  | .jmpAbs _ | .jmpInd _ => .jmp
  | .jsr _ => .jsr
  | .rts => .rts
  | .pha => .pha
  | .php => .php
  | .pla => .pla
  | .plp => .plp
  | .brk => .brk
  | .rti => .rti
  | .tax => .tax
  | .tay => .tay
  | .txa => .txa
  | .tya => .tya
  | .tsx => .tsx
  | .txs => .txs
  | .clc => .clc
  | .cld => .cld
  | .cli => .cli
  | .clv => .clv
  | .sec => .sec
  | .sed => .sed
  | .sei => .sei
  | .nop => .nop

/-- The operand of an instruction, in its addressing mode (R101). -/
def Instr.operand : Instr → Operand
  | .ldaImm v => .imm v | .ldaZp z => .mem (.zp z) | .ldaZpx z => .mem (.zpx z) | .ldaAbs w => .mem (.abs w) | .ldaAbsx w => .mem (.absx w) | .ldaAbsy w => .mem (.absy w) | .ldaIzx z => .mem (.izx z) | .ldaIzy z => .mem (.izy z)
  | .ldxImm v => .imm v | .ldxZp z => .mem (.zp z) | .ldxZpy z => .mem (.zpy z) | .ldxAbs w => .mem (.abs w) | .ldxAbsy w => .mem (.absy w)
  | .ldyImm v => .imm v | .ldyZp z => .mem (.zp z) | .ldyZpx z => .mem (.zpx z) | .ldyAbs w => .mem (.abs w) | .ldyAbsx w => .mem (.absx w)
  | .staZp z => .mem (.zp z) | .staZpx z => .mem (.zpx z) | .staAbs w => .mem (.abs w) | .staAbsx w => .mem (.absx w) | .staAbsy w => .mem (.absy w) | .staIzx z => .mem (.izx z) | .staIzy z => .mem (.izy z)
  | .stxZp z => .mem (.zp z) | .stxZpy z => .mem (.zpy z) | .stxAbs w => .mem (.abs w)
  | .styZp z => .mem (.zp z) | .styZpx z => .mem (.zpx z) | .styAbs w => .mem (.abs w)
  | .adcImm v => .imm v | .adcZp z => .mem (.zp z) | .adcZpx z => .mem (.zpx z) | .adcAbs w => .mem (.abs w) | .adcAbsx w => .mem (.absx w) | .adcAbsy w => .mem (.absy w) | .adcIzx z => .mem (.izx z) | .adcIzy z => .mem (.izy z)
  | .sbcImm v => .imm v | .sbcZp z => .mem (.zp z) | .sbcZpx z => .mem (.zpx z) | .sbcAbs w => .mem (.abs w) | .sbcAbsx w => .mem (.absx w) | .sbcAbsy w => .mem (.absy w) | .sbcIzx z => .mem (.izx z) | .sbcIzy z => .mem (.izy z)
  | .andImm v => .imm v | .andZp z => .mem (.zp z) | .andZpx z => .mem (.zpx z) | .andAbs w => .mem (.abs w) | .andAbsx w => .mem (.absx w) | .andAbsy w => .mem (.absy w) | .andIzx z => .mem (.izx z) | .andIzy z => .mem (.izy z)
  | .oraImm v => .imm v | .oraZp z => .mem (.zp z) | .oraZpx z => .mem (.zpx z) | .oraAbs w => .mem (.abs w) | .oraAbsx w => .mem (.absx w) | .oraAbsy w => .mem (.absy w) | .oraIzx z => .mem (.izx z) | .oraIzy z => .mem (.izy z)
  | .eorImm v => .imm v | .eorZp z => .mem (.zp z) | .eorZpx z => .mem (.zpx z) | .eorAbs w => .mem (.abs w) | .eorAbsx w => .mem (.absx w) | .eorAbsy w => .mem (.absy w) | .eorIzx z => .mem (.izx z) | .eorIzy z => .mem (.izy z)
  | .aslAcc => .acc | .aslZp z => .mem (.zp z) | .aslZpx z => .mem (.zpx z) | .aslAbs w => .mem (.abs w) | .aslAbsx w => .mem (.absx w)
  | .lsrAcc => .acc | .lsrZp z => .mem (.zp z) | .lsrZpx z => .mem (.zpx z) | .lsrAbs w => .mem (.abs w) | .lsrAbsx w => .mem (.absx w)
  | .rolAcc => .acc | .rolZp z => .mem (.zp z) | .rolZpx z => .mem (.zpx z) | .rolAbs w => .mem (.abs w) | .rolAbsx w => .mem (.absx w)
  | .rorAcc => .acc | .rorZp z => .mem (.zp z) | .rorZpx z => .mem (.zpx z) | .rorAbs w => .mem (.abs w) | .rorAbsx w => .mem (.absx w)
  | .incZp z => .mem (.zp z) | .incZpx z => .mem (.zpx z) | .incAbs w => .mem (.abs w) | .incAbsx w => .mem (.absx w)
  | .decZp z => .mem (.zp z) | .decZpx z => .mem (.zpx z) | .decAbs w => .mem (.abs w) | .decAbsx w => .mem (.absx w)
  | .inx => .imp
  | .iny => .imp
  | .dex => .imp
  | .dey => .imp
  | .cmpImm v => .imm v | .cmpZp z => .mem (.zp z) | .cmpZpx z => .mem (.zpx z) | .cmpAbs w => .mem (.abs w) | .cmpAbsx w => .mem (.absx w) | .cmpAbsy w => .mem (.absy w) | .cmpIzx z => .mem (.izx z) | .cmpIzy z => .mem (.izy z)
  | .cpxImm v => .imm v | .cpxZp z => .mem (.zp z) | .cpxAbs w => .mem (.abs w)
  | .cpyImm v => .imm v | .cpyZp z => .mem (.zp z) | .cpyAbs w => .mem (.abs w)
  | .bitZp z => .mem (.zp z) | .bitAbs w => .mem (.abs w)
  | .bpl d => .rel d
  | .bmi d => .rel d
  | .bvc d => .rel d
  | .bvs d => .rel d
  | .bcc d => .rel d
  | .bcs d => .rel d
  | .bne d => .rel d
  | .beq d => .rel d
  | .jmpAbs w => .mem (.abs w) | .jmpInd w => .ind w
  | .jsr w => .mem (.abs w)
  | .rts => .imp
  | .pha => .imp
  | .php => .imp
  | .pla => .imp
  | .plp => .imp
  | .brk => .imp
  | .rti => .imp
  | .tax => .imp
  | .tay => .imp
  | .txa => .imp
  | .tya => .imp
  | .tsx => .imp
  | .txs => .imp
  | .clc => .imp
  | .cld => .imp
  | .cli => .imp
  | .clv => .imp
  | .sec => .imp
  | .sed => .imp
  | .sei => .imp
  | .nop => .imp

end Sys2Proof
end

