-- ==== Sys2Proof/WellFormed.lean ====
section
/-! DEFINITION. Which addressing modes each mnemonic has, as the "Operands" entry of its rule lists them (R140-R233).
Every constructor of Instr is a legal pairing and its fields have the width of R101, so the check refuses assembler forms,
not terms of Instr. -/

namespace Sys2Proof

/-- The addressing modes of a mnemonic, from its own rule. -/
def Mnemonic.modes : Mnemonic → List Mode
  | .lda | .adc | .sbc | .and | .ora | .eor | .cmp =>
    [.imm, .zp, .zpx, .abs, .absx, .absy, .izx, .izy]
  | .ldx => [.imm, .zp, .zpy, .abs, .absy]
  | .ldy => [.imm, .zp, .zpx, .abs, .absx]
  | .sta => [.zp, .zpx, .abs, .absx, .absy, .izx, .izy]
  | .stx => [.zp, .zpy, .abs]
  | .sty => [.zp, .zpx, .abs]
  | .asl | .lsr | .rol | .ror => [.acc, .zp, .zpx, .abs, .absx]
  | .inc | .dec => [.zp, .zpx, .abs, .absx]
  | .inx | .iny | .dex | .dey | .rts | .pha | .php | .pla | .plp | .brk | .rti | .tax
  | .tay | .txa | .tya | .tsx | .txs | .clc | .cld | .cli | .clv | .sec | .sed | .sei
  | .nop =>
    [.imp]
  | .cpx | .cpy => [.imm, .zp, .abs]
  | .bit => [.zp, .abs]
  | .bpl | .bmi | .bvc | .bvs | .bcc | .bcs | .bne | .beq =>
    [.rel]
  | .jmp => [.abs, .ind]
  | .jsr => [.abs]

/-- Whether the mnemonic has the mode. -/
def Mnemonic.allows (m : Mnemonic) (md : Mode) : Bool := m.modes.contains md

/-- What an assembler line names: a mnemonic and an operand in some mode's syntax (R118). -/
structure AsmForm where
  mnemonic : Mnemonic
  operand : Operand
deriving DecidableEq, Repr

/-- A line is well formed when its mnemonic has its operand's mode. -/
def AsmForm.wellFormed (f : AsmForm) : Bool := f.mnemonic.allows f.operand.mode

/-- An instruction as an assembler line. -/
def Instr.asm (i : Instr) : AsmForm := ⟨i.mnemonic, i.operand⟩

/-- The check on an instruction. -/
def Instr.wellFormed (i : Instr) : Bool := i.asm.wellFormed

end Sys2Proof
end

