-- ==== Sys2Proof/Decode.lean ====
section
/-! DEFINITION. Bytes to instructions and back. The opcode table is section 5 of spec/30_encoding.md as rows of data (R115,
R116); the encoder's opcodes are those of each instruction's own rule (R140-R233). -/

namespace Sys2Proof

/-- `hi(w)` (R8). -/
def hiByte (w : Word) : Byte := w.extractLsb' 8 8

/-- `lo(w)` (R8). -/
def loByte (w : Word) : Byte := w.extractLsb' 0 8

/-- `h:l`, the 16-bit value with high byte `h` (R8, R73). -/
def joinBytes (h l : Byte) : Word := h ++ l

/-- How an opcode takes its operand bytes: none, one, or a little-endian pair (R101). -/
inductive Form where
  | bare (i : Instr)
  | byte (k : Byte → Instr)
  | word (k : Word → Instr)

/-- An entry of the dispatch table (R115): mnemonic, mode, base cycles, whether a page cross costs one more (R114), and the
constructor. -/
structure Row where
  opcode : Byte
  mnemonic : Mnemonic
  mode : Mode
  baseCycles : Nat
  pageCross : Bool
  form : Form

/-- The rows whose opcode has the given high nibble (section 5.1 of 30_encoding.md). -/
def opcodeRows : Nat → List Row
  | 0x0 => [
      ⟨0x00, .brk, .imp, 7, false, .bare .brk⟩,
      ⟨0x01, .ora, .izx, 6, false, .byte .oraIzx⟩,
      ⟨0x05, .ora, .zp, 3, false, .byte .oraZp⟩,
      ⟨0x06, .asl, .zp, 5, false, .byte .aslZp⟩,
      ⟨0x08, .php, .imp, 3, false, .bare .php⟩,
      ⟨0x09, .ora, .imm, 2, false, .byte .oraImm⟩,
      ⟨0x0A, .asl, .acc, 2, false, .bare .aslAcc⟩,
      ⟨0x0D, .ora, .abs, 4, false, .word .oraAbs⟩,
      ⟨0x0E, .asl, .abs, 6, false, .word .aslAbs⟩]
  | 0x1 => [
      ⟨0x10, .bpl, .rel, 2, false, .byte .bpl⟩,
      ⟨0x11, .ora, .izy, 5, true, .byte .oraIzy⟩,
      ⟨0x15, .ora, .zpx, 4, false, .byte .oraZpx⟩,
      ⟨0x16, .asl, .zpx, 6, false, .byte .aslZpx⟩,
      ⟨0x18, .clc, .imp, 2, false, .bare .clc⟩,
      ⟨0x19, .ora, .absy, 4, true, .word .oraAbsy⟩,
      ⟨0x1D, .ora, .absx, 4, true, .word .oraAbsx⟩,
      ⟨0x1E, .asl, .absx, 7, false, .word .aslAbsx⟩]
  | 0x2 => [
      ⟨0x20, .jsr, .abs, 6, false, .word .jsr⟩,
      ⟨0x21, .and, .izx, 6, false, .byte .andIzx⟩,
      ⟨0x24, .bit, .zp, 3, false, .byte .bitZp⟩,
      ⟨0x25, .and, .zp, 3, false, .byte .andZp⟩,
      ⟨0x26, .rol, .zp, 5, false, .byte .rolZp⟩,
      ⟨0x28, .plp, .imp, 4, false, .bare .plp⟩,
      ⟨0x29, .and, .imm, 2, false, .byte .andImm⟩,
      ⟨0x2A, .rol, .acc, 2, false, .bare .rolAcc⟩,
      ⟨0x2C, .bit, .abs, 4, false, .word .bitAbs⟩,
      ⟨0x2D, .and, .abs, 4, false, .word .andAbs⟩,
      ⟨0x2E, .rol, .abs, 6, false, .word .rolAbs⟩]
  | 0x3 => [
      ⟨0x30, .bmi, .rel, 2, false, .byte .bmi⟩,
      ⟨0x31, .and, .izy, 5, true, .byte .andIzy⟩,
      ⟨0x35, .and, .zpx, 4, false, .byte .andZpx⟩,
      ⟨0x36, .rol, .zpx, 6, false, .byte .rolZpx⟩,
      ⟨0x38, .sec, .imp, 2, false, .bare .sec⟩,
      ⟨0x39, .and, .absy, 4, true, .word .andAbsy⟩,
      ⟨0x3D, .and, .absx, 4, true, .word .andAbsx⟩,
      ⟨0x3E, .rol, .absx, 7, false, .word .rolAbsx⟩]
  | 0x4 => [
      ⟨0x40, .rti, .imp, 6, false, .bare .rti⟩,
      ⟨0x41, .eor, .izx, 6, false, .byte .eorIzx⟩,
      ⟨0x45, .eor, .zp, 3, false, .byte .eorZp⟩,
      ⟨0x46, .lsr, .zp, 5, false, .byte .lsrZp⟩,
      ⟨0x48, .pha, .imp, 3, false, .bare .pha⟩,
      ⟨0x49, .eor, .imm, 2, false, .byte .eorImm⟩,
      ⟨0x4A, .lsr, .acc, 2, false, .bare .lsrAcc⟩,
      ⟨0x4C, .jmp, .abs, 3, false, .word .jmpAbs⟩,
      ⟨0x4D, .eor, .abs, 4, false, .word .eorAbs⟩,
      ⟨0x4E, .lsr, .abs, 6, false, .word .lsrAbs⟩]
  | 0x5 => [
      ⟨0x50, .bvc, .rel, 2, false, .byte .bvc⟩,
      ⟨0x51, .eor, .izy, 5, true, .byte .eorIzy⟩,
      ⟨0x55, .eor, .zpx, 4, false, .byte .eorZpx⟩,
      ⟨0x56, .lsr, .zpx, 6, false, .byte .lsrZpx⟩,
      ⟨0x58, .cli, .imp, 2, false, .bare .cli⟩,
      ⟨0x59, .eor, .absy, 4, true, .word .eorAbsy⟩,
      ⟨0x5D, .eor, .absx, 4, true, .word .eorAbsx⟩,
      ⟨0x5E, .lsr, .absx, 7, false, .word .lsrAbsx⟩]
  | 0x6 => [
      ⟨0x60, .rts, .imp, 6, false, .bare .rts⟩,
      ⟨0x61, .adc, .izx, 6, false, .byte .adcIzx⟩,
      ⟨0x65, .adc, .zp, 3, false, .byte .adcZp⟩,
      ⟨0x66, .ror, .zp, 5, false, .byte .rorZp⟩,
      ⟨0x68, .pla, .imp, 4, false, .bare .pla⟩,
      ⟨0x69, .adc, .imm, 2, false, .byte .adcImm⟩,
      ⟨0x6A, .ror, .acc, 2, false, .bare .rorAcc⟩,
      ⟨0x6C, .jmp, .ind, 5, false, .word .jmpInd⟩,
      ⟨0x6D, .adc, .abs, 4, false, .word .adcAbs⟩,
      ⟨0x6E, .ror, .abs, 6, false, .word .rorAbs⟩]
  | 0x7 => [
      ⟨0x70, .bvs, .rel, 2, false, .byte .bvs⟩,
      ⟨0x71, .adc, .izy, 5, true, .byte .adcIzy⟩,
      ⟨0x75, .adc, .zpx, 4, false, .byte .adcZpx⟩,
      ⟨0x76, .ror, .zpx, 6, false, .byte .rorZpx⟩,
      ⟨0x78, .sei, .imp, 2, false, .bare .sei⟩,
      ⟨0x79, .adc, .absy, 4, true, .word .adcAbsy⟩,
      ⟨0x7D, .adc, .absx, 4, true, .word .adcAbsx⟩,
      ⟨0x7E, .ror, .absx, 7, false, .word .rorAbsx⟩]
  | 0x8 => [
      ⟨0x81, .sta, .izx, 6, false, .byte .staIzx⟩,
      ⟨0x84, .sty, .zp, 3, false, .byte .styZp⟩,
      ⟨0x85, .sta, .zp, 3, false, .byte .staZp⟩,
      ⟨0x86, .stx, .zp, 3, false, .byte .stxZp⟩,
      ⟨0x88, .dey, .imp, 2, false, .bare .dey⟩,
      ⟨0x8A, .txa, .imp, 2, false, .bare .txa⟩,
      ⟨0x8C, .sty, .abs, 4, false, .word .styAbs⟩,
      ⟨0x8D, .sta, .abs, 4, false, .word .staAbs⟩,
      ⟨0x8E, .stx, .abs, 4, false, .word .stxAbs⟩]
  | 0x9 => [
      ⟨0x90, .bcc, .rel, 2, false, .byte .bcc⟩,
      ⟨0x91, .sta, .izy, 6, false, .byte .staIzy⟩,
      ⟨0x94, .sty, .zpx, 4, false, .byte .styZpx⟩,
      ⟨0x95, .sta, .zpx, 4, false, .byte .staZpx⟩,
      ⟨0x96, .stx, .zpy, 4, false, .byte .stxZpy⟩,
      ⟨0x98, .tya, .imp, 2, false, .bare .tya⟩,
      ⟨0x99, .sta, .absy, 5, false, .word .staAbsy⟩,
      ⟨0x9A, .txs, .imp, 2, false, .bare .txs⟩,
      ⟨0x9D, .sta, .absx, 5, false, .word .staAbsx⟩]
  | 0xA => [
      ⟨0xA0, .ldy, .imm, 2, false, .byte .ldyImm⟩,
      ⟨0xA1, .lda, .izx, 6, false, .byte .ldaIzx⟩,
      ⟨0xA2, .ldx, .imm, 2, false, .byte .ldxImm⟩,
      ⟨0xA4, .ldy, .zp, 3, false, .byte .ldyZp⟩,
      ⟨0xA5, .lda, .zp, 3, false, .byte .ldaZp⟩,
      ⟨0xA6, .ldx, .zp, 3, false, .byte .ldxZp⟩,
      ⟨0xA8, .tay, .imp, 2, false, .bare .tay⟩,
      ⟨0xA9, .lda, .imm, 2, false, .byte .ldaImm⟩,
      ⟨0xAA, .tax, .imp, 2, false, .bare .tax⟩,
      ⟨0xAC, .ldy, .abs, 4, false, .word .ldyAbs⟩,
      ⟨0xAD, .lda, .abs, 4, false, .word .ldaAbs⟩,
      ⟨0xAE, .ldx, .abs, 4, false, .word .ldxAbs⟩]
  | 0xB => [
      ⟨0xB0, .bcs, .rel, 2, false, .byte .bcs⟩,
      ⟨0xB1, .lda, .izy, 5, true, .byte .ldaIzy⟩,
      ⟨0xB4, .ldy, .zpx, 4, false, .byte .ldyZpx⟩,
      ⟨0xB5, .lda, .zpx, 4, false, .byte .ldaZpx⟩,
      ⟨0xB6, .ldx, .zpy, 4, false, .byte .ldxZpy⟩,
      ⟨0xB8, .clv, .imp, 2, false, .bare .clv⟩,
      ⟨0xB9, .lda, .absy, 4, true, .word .ldaAbsy⟩,
      ⟨0xBA, .tsx, .imp, 2, false, .bare .tsx⟩,
      ⟨0xBC, .ldy, .absx, 4, true, .word .ldyAbsx⟩,
      ⟨0xBD, .lda, .absx, 4, true, .word .ldaAbsx⟩,
      ⟨0xBE, .ldx, .absy, 4, true, .word .ldxAbsy⟩]
  | 0xC => [
      ⟨0xC0, .cpy, .imm, 2, false, .byte .cpyImm⟩,
      ⟨0xC1, .cmp, .izx, 6, false, .byte .cmpIzx⟩,
      ⟨0xC4, .cpy, .zp, 3, false, .byte .cpyZp⟩,
      ⟨0xC5, .cmp, .zp, 3, false, .byte .cmpZp⟩,
      ⟨0xC6, .dec, .zp, 5, false, .byte .decZp⟩,
      ⟨0xC8, .iny, .imp, 2, false, .bare .iny⟩,
      ⟨0xC9, .cmp, .imm, 2, false, .byte .cmpImm⟩,
      ⟨0xCA, .dex, .imp, 2, false, .bare .dex⟩,
      ⟨0xCC, .cpy, .abs, 4, false, .word .cpyAbs⟩,
      ⟨0xCD, .cmp, .abs, 4, false, .word .cmpAbs⟩,
      ⟨0xCE, .dec, .abs, 6, false, .word .decAbs⟩]
  | 0xD => [
      ⟨0xD0, .bne, .rel, 2, false, .byte .bne⟩,
      ⟨0xD1, .cmp, .izy, 5, true, .byte .cmpIzy⟩,
      ⟨0xD5, .cmp, .zpx, 4, false, .byte .cmpZpx⟩,
      ⟨0xD6, .dec, .zpx, 6, false, .byte .decZpx⟩,
      ⟨0xD8, .cld, .imp, 2, false, .bare .cld⟩,
      ⟨0xD9, .cmp, .absy, 4, true, .word .cmpAbsy⟩,
      ⟨0xDD, .cmp, .absx, 4, true, .word .cmpAbsx⟩,
      ⟨0xDE, .dec, .absx, 7, false, .word .decAbsx⟩]
  | 0xE => [
      ⟨0xE0, .cpx, .imm, 2, false, .byte .cpxImm⟩,
      ⟨0xE1, .sbc, .izx, 6, false, .byte .sbcIzx⟩,
      ⟨0xE4, .cpx, .zp, 3, false, .byte .cpxZp⟩,
      ⟨0xE5, .sbc, .zp, 3, false, .byte .sbcZp⟩,
      ⟨0xE6, .inc, .zp, 5, false, .byte .incZp⟩,
      ⟨0xE8, .inx, .imp, 2, false, .bare .inx⟩,
      ⟨0xE9, .sbc, .imm, 2, false, .byte .sbcImm⟩,
      ⟨0xEA, .nop, .imp, 2, false, .bare .nop⟩,
      ⟨0xEC, .cpx, .abs, 4, false, .word .cpxAbs⟩,
      ⟨0xED, .sbc, .abs, 4, false, .word .sbcAbs⟩,
      ⟨0xEE, .inc, .abs, 6, false, .word .incAbs⟩]
  | 0xF => [
      ⟨0xF0, .beq, .rel, 2, false, .byte .beq⟩,
      ⟨0xF1, .sbc, .izy, 5, true, .byte .sbcIzy⟩,
      ⟨0xF5, .sbc, .zpx, 4, false, .byte .sbcZpx⟩,
      ⟨0xF6, .inc, .zpx, 6, false, .byte .incZpx⟩,
      ⟨0xF8, .sed, .imp, 2, false, .bare .sed⟩,
      ⟨0xF9, .sbc, .absy, 4, true, .word .sbcAbsy⟩,
      ⟨0xFD, .sbc, .absx, 4, true, .word .sbcAbsx⟩,
      ⟨0xFE, .inc, .absx, 7, false, .word .incAbsx⟩]
  | _ => []

/-- `table[op]` (R115); `none` for the 105 bytes of R117. -/
def lookup (op : Byte) : Option Row := (opcodeRows (op.toNat / 16)).find? fun r => r.opcode == op

/-- Why a list of bytes is no instruction. -/
inductive DecodeError where
  /-- There is no opcode byte. -/
  | noBytes
  /-- The opcode byte has no table entry (R117). -/
  | unassigned (op : Byte)
  /-- The list ends before the operand bytes of the opcode. -/
  | truncated (op : Byte)
deriving DecidableEq, Repr

/-- The bytes of the instruction stream that follow an instruction's fetched bytes and are not read: BRK's padding (R101). -/
def Instr.padding (i : Instr) : Nat := if i = .brk then 1 else 0

/-- Decode the instruction at the front of a list of bytes; the answer holds the bytes after it. Total; BRK needs its opcode
byte only and steps over its padding byte (R101, R102, R120). -/
def decode : List Byte → Except DecodeError (Instr × List Byte)
  | [] => .error .noBytes
  | op :: rest =>
    match lookup op with
    | none => .error (.unassigned op)
    | some row =>
      match row.form, rest with
      | .bare i, _ => .ok (i, rest.drop i.padding)
      | .byte k, b :: rest => .ok (k b, rest)
      | .word k, l :: h :: rest => .ok (k (joinBytes h l), rest)
      | _, _ => .error (.truncated op)

/-- The opcode byte of an instruction, from the "Encoding" entry of its own rule. -/
def Instr.opcode : Instr → Byte
  -- R140
  | .ldaImm _ => 0xA9 | .ldaZp _ => 0xA5 | .ldaZpx _ => 0xB5 | .ldaAbs _ => 0xAD
  | .ldaAbsx _ => 0xBD | .ldaAbsy _ => 0xB9 | .ldaIzx _ => 0xA1 | .ldaIzy _ => 0xB1
  -- R141
  | .ldxImm _ => 0xA2 | .ldxZp _ => 0xA6 | .ldxZpy _ => 0xB6 | .ldxAbs _ => 0xAE
  | .ldxAbsy _ => 0xBE
  -- R142
  | .ldyImm _ => 0xA0 | .ldyZp _ => 0xA4 | .ldyZpx _ => 0xB4 | .ldyAbs _ => 0xAC
  | .ldyAbsx _ => 0xBC
  -- R143
  | .staZp _ => 0x85 | .staZpx _ => 0x95 | .staAbs _ => 0x8D | .staAbsx _ => 0x9D
  | .staAbsy _ => 0x99 | .staIzx _ => 0x81 | .staIzy _ => 0x91
  -- R144
  | .stxZp _ => 0x86 | .stxZpy _ => 0x96 | .stxAbs _ => 0x8E
  -- R145
  | .styZp _ => 0x84 | .styZpx _ => 0x94 | .styAbs _ => 0x8C
  -- R151
  | .adcImm _ => 0x69 | .adcZp _ => 0x65 | .adcZpx _ => 0x75 | .adcAbs _ => 0x6D
  | .adcAbsx _ => 0x7D | .adcAbsy _ => 0x79 | .adcIzx _ => 0x61 | .adcIzy _ => 0x71
  -- R152
  | .sbcImm _ => 0xE9 | .sbcZp _ => 0xE5 | .sbcZpx _ => 0xF5 | .sbcAbs _ => 0xED
  | .sbcAbsx _ => 0xFD | .sbcAbsy _ => 0xF9 | .sbcIzx _ => 0xE1 | .sbcIzy _ => 0xF1
  -- R153
  | .andImm _ => 0x29 | .andZp _ => 0x25 | .andZpx _ => 0x35 | .andAbs _ => 0x2D
  | .andAbsx _ => 0x3D | .andAbsy _ => 0x39 | .andIzx _ => 0x21 | .andIzy _ => 0x31
  -- R154
  | .oraImm _ => 0x09 | .oraZp _ => 0x05 | .oraZpx _ => 0x15 | .oraAbs _ => 0x0D
  | .oraAbsx _ => 0x1D | .oraAbsy _ => 0x19 | .oraIzx _ => 0x01 | .oraIzy _ => 0x11
  -- R155
  | .eorImm _ => 0x49 | .eorZp _ => 0x45 | .eorZpx _ => 0x55 | .eorAbs _ => 0x4D
  | .eorAbsx _ => 0x5D | .eorAbsy _ => 0x59 | .eorIzx _ => 0x41 | .eorIzy _ => 0x51
  -- R161
  | .aslAcc => 0x0A | .aslZp _ => 0x06 | .aslZpx _ => 0x16 | .aslAbs _ => 0x0E
  | .aslAbsx _ => 0x1E
  -- R162
  | .lsrAcc => 0x4A | .lsrZp _ => 0x46 | .lsrZpx _ => 0x56 | .lsrAbs _ => 0x4E
  | .lsrAbsx _ => 0x5E
  -- R163
  | .rolAcc => 0x2A | .rolZp _ => 0x26 | .rolZpx _ => 0x36 | .rolAbs _ => 0x2E
  | .rolAbsx _ => 0x3E
  -- R164
  | .rorAcc => 0x6A | .rorZp _ => 0x66 | .rorZpx _ => 0x76 | .rorAbs _ => 0x6E
  | .rorAbsx _ => 0x7E
  -- R170
  | .incZp _ => 0xE6 | .incZpx _ => 0xF6 | .incAbs _ => 0xEE | .incAbsx _ => 0xFE
  -- R171
  | .decZp _ => 0xC6 | .decZpx _ => 0xD6 | .decAbs _ => 0xCE | .decAbsx _ => 0xDE
  -- R172
  | .inx => 0xE8
  -- R173
  | .iny => 0xC8
  -- R174
  | .dex => 0xCA
  -- R175
  | .dey => 0x88
  -- R181
  | .cmpImm _ => 0xC9 | .cmpZp _ => 0xC5 | .cmpZpx _ => 0xD5 | .cmpAbs _ => 0xCD
  | .cmpAbsx _ => 0xDD | .cmpAbsy _ => 0xD9 | .cmpIzx _ => 0xC1 | .cmpIzy _ => 0xD1
  -- R182
  | .cpxImm _ => 0xE0 | .cpxZp _ => 0xE4 | .cpxAbs _ => 0xEC
  -- R183
  | .cpyImm _ => 0xC0 | .cpyZp _ => 0xC4 | .cpyAbs _ => 0xCC
  -- R184
  | .bitZp _ => 0x24 | .bitAbs _ => 0x2C
  -- R191
  | .bpl _ => 0x10
  -- R192
  | .bmi _ => 0x30
  -- R193
  | .bvc _ => 0x50
  -- R194
  | .bvs _ => 0x70
  -- R195
  | .bcc _ => 0x90
  -- R196
  | .bcs _ => 0xB0
  -- R197
  | .bne _ => 0xD0
  -- R198
  | .beq _ => 0xF0
  -- R200
  | .jmpAbs _ => 0x4C | .jmpInd _ => 0x6C
  -- R201
  | .jsr _ => 0x20
  -- R202
  | .rts => 0x60
  -- R203
  | .pha => 0x48
  -- R204
  | .php => 0x08
  -- R205
  | .pla => 0x68
  -- R206
  | .plp => 0x28
  -- R215
  | .brk => 0x00
  -- R216
  | .rti => 0x40
  -- R220
  | .tax => 0xAA
  -- R221
  | .tay => 0xA8
  -- R222
  | .txa => 0x8A
  -- R223
  | .tya => 0x98
  -- R224
  | .tsx => 0xBA
  -- R225
  | .txs => 0x9A
  -- R226
  | .clc => 0x18
  -- R227
  | .cld => 0xD8
  -- R228
  | .cli => 0x58
  -- R229
  | .clv => 0xB8
  -- R230
  | .sec => 0x38
  -- R231
  | .sed => 0xF8
  -- R232
  | .sei => 0x78
  -- R233
  | .nop => 0xEA

/-- The bytes of a memory operand (R101): a 16-bit address has its low byte first (R73). -/
def Addr.bytes : Addr → List Byte
  | .zp z | .zpx z | .zpy z | .izx z | .izy z => [z]
  | .abs w | .absx w | .absy w => [loByte w, hiByte w]

/-- The operand bytes an instruction's resolver fetches (R101). -/
def Operand.bytes : Operand → List Byte
  | .imp | .acc => []
  | .imm v => [v]
  | .mem a => a.bytes
  | .ind w => [loByte w, hiByte w]
  | .rel d => [d]

/-- The bytes fetched to run an instruction: its opcode and its operand bytes (R100, R120). -/
def Instr.fetchedBytes (i : Instr) : List Byte := i.opcode :: i.operand.bytes

/-- The bytes an instruction occupies. BRK's padding byte is written as 0x00 (DESIGN CHOICE, safe: log 8). -/
def encode (i : Instr) : List Byte := i.fetchedBytes ++ List.replicate i.padding 0x00

/-- The length of an instruction in the instruction stream (R102). -/
def Instr.length (i : Instr) : Nat := i.fetchedBytes.length + i.padding

/-- An opcode-table word as bytes: the first byte in bits 7..0, and so on; bits from `nbits` up are 0. -/
def tableBytes (nbits w : Nat) : List Byte :=
  let v := w % 2 ^ nbits
  [BitVec.ofNat 8 v, BitVec.ofNat 8 (v / 0x100), BitVec.ofNat 8 (v / 0x10000)]

/-- The instruction the decoder reads from a word of spec/opcode_table.json. -/
def decodeTableWord (nbits w : Nat) : Option Instr :=
  match decode (tableBytes nbits w) with
  | .ok (i, _) => some i
  | .error _ => none

/-! Assembler syntax (R118). -/

/-- The displacement byte of a branch at `address` to `target`, or none where it is out of reach (R118). -/
def branchDisplacement (address target : Word) : Option Byte :=
  let d : Int := (target.toNat : Int) - ((address.toNat : Int) + 2)
  if -128 ≤ d ∧ d ≤ 127 then some (BitVec.ofInt 8 d) else none

/-- A hexadecimal digit. -/
def hexDigit (n : Nat) : Char := "0123456789ABCDEF".toList.getD n '0'

/-- A byte as two hexadecimal digits. -/
def hexByte (b : Byte) : List Char := [hexDigit (b.toNat / 16), hexDigit (b.toNat % 16)]

/-- An address as four hexadecimal digits. -/
def hexWord (w : Word) : List Char := hexByte (hiByte w) ++ hexByte (loByte w)

/-- The operand text of a memory operand (R118). -/
def Addr.text : Addr → List Char
  | .zp z => '$' :: hexByte z
  | .zpx z => '$' :: hexByte z ++ ",X".toList
  | .zpy z => '$' :: hexByte z ++ ",Y".toList
  | .abs w => '$' :: hexWord w
  | .absx w => '$' :: hexWord w ++ ",X".toList
  | .absy w => '$' :: hexWord w ++ ",Y".toList
  | .izx z => "($".toList ++ hexByte z ++ ",X)".toList
  | .izy z => "($".toList ++ hexByte z ++ "),Y".toList

/-- The operand text of an instruction at `address`; a branch names its target (R118). -/
def Operand.text (address : Word) : Operand → List Char
  | .imp => []
  | .acc => " A".toList
  | .imm v => " #$".toList ++ hexByte v
  | .mem a => ' ' :: a.text
  | .ind w => " ($".toList ++ hexWord w ++ [')']
  | .rel d => " $".toList ++ hexWord (address + 2 + d.signExtend 16)

/-- The three letters of a mnemonic (R116). -/
def Mnemonic.letters : Mnemonic → String
  | .adc => "ADC" | .and => "AND" | .asl => "ASL" | .bcc => "BCC" | .bcs => "BCS" | .beq => "BEQ"
  | .bit => "BIT" | .bmi => "BMI" | .bne => "BNE" | .bpl => "BPL" | .brk => "BRK" | .bvc => "BVC"
  | .bvs => "BVS" | .clc => "CLC" | .cld => "CLD" | .cli => "CLI" | .clv => "CLV" | .cmp => "CMP"
  | .cpx => "CPX" | .cpy => "CPY" | .dec => "DEC" | .dex => "DEX" | .dey => "DEY" | .eor => "EOR"
  | .inc => "INC" | .inx => "INX" | .iny => "INY" | .jmp => "JMP" | .jsr => "JSR" | .lda => "LDA"
  | .ldx => "LDX" | .ldy => "LDY" | .lsr => "LSR" | .nop => "NOP" | .ora => "ORA" | .pha => "PHA"
  | .php => "PHP" | .pla => "PLA" | .plp => "PLP" | .rol => "ROL" | .ror => "ROR" | .rti => "RTI"
  | .rts => "RTS" | .sbc => "SBC" | .sec => "SEC" | .sed => "SED" | .sei => "SEI" | .sta => "STA"
  | .stx => "STX" | .sty => "STY" | .tax => "TAX" | .tay => "TAY" | .tsx => "TSX" | .txa => "TXA"
  | .txs => "TXS" | .tya => "TYA"

/-- An instruction at `address` in assembler syntax (R118). -/
def Instr.text (address : Word) (i : Instr) : List Char := i.mnemonic.letters.toList ++ i.operand.text address

end Sys2Proof
end

