-- ==== Sys2Proof/Config.lean ====
section
/-! DEFINITION. What is fixed for a session (rule R6 and R264), the events of the bus, and the free value the spec leaves to
the bus. -/

namespace Sys2Proof

/-- The unknown-opcode policy, "selected by caller configuration" (R6, R252, R253, D32). -/
inductive Policy where
  | strict
  | permissive
deriving DecidableEq, Repr

/-- The parameters the host fixes for a session: the policy (R6) and whether a trace logger is attached (R256, 93 U9). -/
structure Config where
  policy : Policy
  traceHook : Bool
deriving DecidableEq, Repr

/-- One event of the bus history (R10, R84). -/
inductive Machine.BusEvent where
  | read (addr : Word) (value : Byte)
  | write (addr : Word) (value : Byte)
deriving DecidableEq, Repr

/-- FREE VALUE: the byte a device answers when `addr` is read, after the accesses of `history` (newest first), `touched` being
what the host last did to the devices between ticks (`HostCall.touchDevices`).
The spec gives the core no device's behaviour: "read values are `any value` to the core" (93 U5, R80).
An earlier read may have changed the device's state, and so may an earlier write, at any address and of any byte (R79): the
answer is a function of all of them, and nothing constrains it (log 2). -/
opaque Config.deviceByte (touched : Nat) (history : List Machine.BusEvent) (addr : Word) : Byte

end Sys2Proof
end

