-- ==== Sys2Proof/Machine/State.lean ====
section
/-! DEFINITION. The machine's state as plain data, its faults and refusals, and the state right after reset.
Rules R30-R53 of spec/10_state.md; R70 and R84 of 20_memory.md; R256, R257, R264 of 60_exceptions.md; R280-R287 of
70_reset_and_hazards.md. -/

namespace Sys2Proof.Machine

/-- The seven status flags (R38). The status byte P is not stored: it is packed from these on demand (R40). -/
structure Flags where
  c : Bool
  z : Bool
  i : Bool
  d : Bool
  b : Bool
  v : Bool
  n : Bool
deriving DecidableEq, Repr

/-- Memory: the bus contents (R52, R70), as address and byte pairs in the canonical form `Memory.wf`. -/
abbrev Memory := List Host.Cell

/-- What answers a range of bus addresses (R70, R88): RAM, ROM (writes complete and change nothing), or a device
(reads are free values). DESIGN CHOICE, safe: log 3. -/
inductive RegionKind where
  | ram
  | rom
  | device
deriving DecidableEq, Repr

/-- A range of addresses of the bus parameter (R81: "everything else is the platform's"). -/
structure Region where
  base : Nat
  size : Nat
  kind : RegionKind
deriving DecidableEq, Repr

/-- One report of the trace hook (R256): the opcode's address, its byte and the snapshot (A, X, Y, Pack(B), SP). -/
structure TraceEntry where
  pc : Word
  opcode : Byte
  a : Byte
  x : Byte
  y : Byte
  p : Byte
  sp : Byte
deriving DecidableEq, Repr

/-- One call of the diagnostics collaborator, with `(opcode, pc)` (R257). -/
structure DiagEntry where
  opcode : Byte
  pc : Word
deriving DecidableEq, Repr

/-- What the host does to the core (R264): a tick, a reset with the checksum verdict; and between ticks writing the NMI latch,
driving the IRQ line, changing a byte of memory, changing the state of the devices.
DESIGN CHOICE (log 4): the environment may write the latch either way, so it may also clear a latched NMI before the core has
seen it. The spec leaves this open: R264 names only "sets `nmiLatch <- true`", but lets the host touch "the latch", R85 lets
the environment "mutate the NMI latch", and 93 U6 gives it `any value` between ticks. -/
inductive HostCall where
  | tick
  | reset (automation : Bool)
  | setNmiLatch (latched : Bool)
  | driveIrq (level : Bool)
  | pokeBus (addr : Word) (value : Byte)
  | touchDevices (touch : Nat)
deriving DecidableEq, Repr

/-- Whether the first `reset()` has been called (R287). -/
inductive Phase where
  | unreset
  | running
deriving DecidableEq, Repr

/-- The state. Core state: pc to cyc (R30-R49). Environment the core reads: nmiLatch, irqLine, mem (R50-R52).
Outputs: busHistory, traceLog, diagLog, each newest first (R84, R256, R257). Parameters: config (R6), busMap (log 3).
The model's own: devicesTouched (log 2), schedule (log 4), phase (R287). -/
structure State where
  pc : Word
  sp : Byte
  a : Byte
  x : Byte
  y : Byte
  flags : Flags
  cyc : BitVec 32
  nmiLatch : Bool
  irqLine : Bool
  mem : Memory
  busMap : List Region
  devicesTouched : Nat
  busHistory : List BusEvent
  traceLog : List TraceEntry
  diagLog : List DiagEntry
  config : Config
  phase : Phase
  schedule : List HostCall
deriving DecidableEq, Repr

/-- The reasons a run stops in a fault. -/
inductive Fault where
  /-- Raised by the opcode dispatch in Strict mode for a byte with no table entry; `pc` is the address of that byte, `halted` the
  state the core halts in: the opcode's bus read and the trace report made, everything else as at the start of the tick (R252).
  As the spec says, so safe: log 10. -/
  | unhandledOpcode (byte : Byte) (pc : Word) (halted : State)
deriving DecidableEq, Repr

/-- The reasons a step is refused. -/
inductive Refusal where
  /-- Raised by an arm of exec whose instruction has no meaning yet; safe. No arm does. -/
  | notModelled (mnemonic : String)
  /-- Raised by `tick()` before the first `reset()`, which "is not defined" (R287, 93 U7); safe. -/
  | tickBeforeReset
deriving DecidableEq, Repr

/-- How a step of the machine ends. -/
abbrev StepResult := Host.Outcome State Fault Refusal

/-- The state right after the first `reset(false)` of a fresh process over a bus with nothing listed (R280-R287).
SP, flags and cyc are the spec's (R281, R283, R285); A, X, Y are 0x00 from process start (R284).
PC is what the reset vector reads as in memory with nothing listed (R282, log 5), and the two vector reads stand in the history.
The other fields are DESIGN CHOICE: logs 1, 3, 4, 6, 7. -/
def State.reset : State where
  pc := 0x0000
  sp := 0xFD
  a := 0x00
  x := 0x00
  y := 0x00
  flags := { c := false, z := false, i := true, d := false, b := false, v := false, n := false }
  cyc := 7
  nmiLatch := false
  irqLine := false
  mem := []
  busMap := []
  devicesTouched := 0
  busHistory := [.read 0xFFFD 0x00, .read 0xFFFC 0x00]
  traceLog := []
  diagLog := []
  config := { policy := .strict, traceHook := true }
  phase := .running
  schedule := []

end Sys2Proof.Machine
end

