-- ==== Sys2Proof/Machine/Flags.lean ====
section
/-! DEFINITION. Every flag computation of the spec: SetZN (R11), Pack and Unpack (R40, R41), add, subtract, compare, bit
test (R151, R152, R180, R184), shifts and rotates (R161-R164). Arithmetic is on integers and narrowed at the end (R8, R150). -/

namespace Sys2Proof.Machine

/-- `SetZN(v)`: Z <- (v = 0), N <- v[7] (R11). -/
def setZN (v : Byte) (f : Flags) : Flags := { f with z := v == 0x00, n := v.getLsbD 7 }

/-- The byte whose bit `k` is `b` and whose other bits are 0. -/
def flagBit (b : Bool) (k : Nat) : Byte := if b then 0x01 <<< k else 0x00

/-- `Pack(b4)`: N V 1 b4 D I Z C from bit 7 to bit 0 (R39, R40). -/
def pack (b4 : Bool) (f : Flags) : Byte :=
  flagBit f.n 7 ||| flagBit f.v 6 ||| flagBit true 5 ||| flagBit b4 4 ||| flagBit f.d 3 ||| flagBit f.i 2 |||
    flagBit f.z 1 ||| flagBit f.c 0

/-- `Unpack(p)`: C, Z, I, D, V, N from bits 0, 1, 2, 3, 6, 7; bits 4 and 5 are discarded, B is unchanged (R41). -/
def unpack (p : Byte) (f : Flags) : Flags :=
  { f with c := p.getLsbD 0, z := p.getLsbD 1, i := p.getLsbD 2, d := p.getLsbD 3, v := p.getLsbD 6, n := p.getLsbD 7 }

/-- `A + M + C` on integers, 0..511 (R151). -/
def adcSum (a m : Byte) (c : Bool) : Nat := a.toNat + m.toNat + c.toNat

/-- The byte ADC leaves in A (R151). -/
def adcResult (a m : Byte) (c : Bool) : Byte := BitVec.ofNat 8 (adcSum a m c)

/-- The flags after ADC: C the ninth bit, V the overflow formula, Z and N from the result (R151). -/
def adcFlags (a m : Byte) (f : Flags) : Flags :=
  let r := adcResult a m f.c
  setZN r { f with c := decide (adcSum a m f.c > 0xFF), v := (~~~(a ^^^ m) &&& (a ^^^ r)).getLsbD 7 }

/-- `A − M − (1 − C)` on integers, −256..255 (R152). -/
def sbcDiff (a m : Byte) (c : Bool) : Int := (a.toNat : Int) - (m.toNat : Int) - (1 - (c.toNat : Int))

/-- The byte SBC leaves in A (R152). -/
def sbcResult (a m : Byte) (c : Bool) : Byte := BitVec.ofInt 8 (sbcDiff a m c)

/-- The flags after SBC: C the absence of a borrow, V the overflow formula, Z and N from the result (R152). -/
def sbcFlags (a m : Byte) (f : Flags) : Flags :=
  let r := sbcResult a m f.c
  setZN r { f with c := decide (0 ≤ sbcDiff a m f.c), v := ((a ^^^ m) &&& (a ^^^ r)).getLsbD 7 }

/-- `Compare(r, M)`: unsigned; C <- r ≥ M, Z <- r = M, N <- bit 7 of the wrapped difference (R180). -/
def compareFlags (r m : Byte) (f : Flags) : Flags :=
  { f with
    c := decide (m.toNat ≤ r.toNat)
    z := decide (r = m)
    n := (BitVec.ofInt 8 ((r.toNat : Int) - (m.toNat : Int))).getLsbD 7 }

/-- BIT: Z <- (M & A = 0), N <- M[7], V <- M[6] (R184). -/
def bitFlags (a m : Byte) (f : Flags) : Flags :=
  { f with z := (m &&& a) == 0x00, n := m.getLsbD 7, v := m.getLsbD 6 }

/-- ASL: the result and the flags (R161). -/
def aslOp (m : Byte) (f : Flags) : Byte × Flags :=
  let r := m <<< 1
  (r, setZN r { f with c := m.getLsbD 7 })

/-- LSR: the result and the flags (R162). -/
def lsrOp (m : Byte) (f : Flags) : Byte × Flags :=
  let r := m >>> 1
  (r, setZN r { f with c := m.getLsbD 0 })

/-- ROL: the old carry enters bit 0 (R163). -/
def rolOp (m : Byte) (f : Flags) : Byte × Flags :=
  let r := (m <<< 1) ||| flagBit f.c 0
  (r, setZN r { f with c := m.getLsbD 7 })

/-- ROR: the old carry enters bit 7 (R164). -/
def rorOp (m : Byte) (f : Flags) : Byte × Flags :=
  let r := (m >>> 1) ||| flagBit f.c 7
  (r, setZN r { f with c := m.getLsbD 0 })

/-- INC: u8(M + 1), Z and N (R170). -/
def incOp (m : Byte) (f : Flags) : Byte × Flags :=
  let r := m + 1
  (r, setZN r f)

/-- DEC: u8(M − 1), Z and N (R171). -/
def decOp (m : Byte) (f : Flags) : Byte × Flags :=
  let r := m - 1
  (r, setZN r f)

end Sys2Proof.Machine
end

