-- ==== Sys2Proof/Machine/Ops.lean ====
section
/-! DEFINITION. The named operations over memory, the bus and the registers: one byte of memory (R70, R85), bus reads and
writes (R10, R71, R72), the fetch primitives (R100), the stack (R76, R77), taking an interrupt and returning from one (R245,
R250, R216), reset (R280). -/

namespace Sys2Proof.Machine

/-- What an address that is not listed reads as. DESIGN CHOICE, unsafe: log 1. -/
def Memory.unlisted : Byte := 0x00

/-- One byte of memory. -/
def Memory.read : Memory → Nat → Byte
  | [], _ => Memory.unlisted
  | (k, v) :: rest, a => if k = a then v else Memory.read rest a

/-- Writing one byte, keeping the canonical form: addresses rise, and a byte equal to `unlisted` is not listed. -/
def Memory.write : Memory → Nat → Byte → Memory
  | [], a, v => if v = Memory.unlisted then [] else [(a, v)]
  | (k, w) :: rest, a, v =>
    if a < k then (if v = Memory.unlisted then (k, w) :: rest else (a, v) :: (k, w) :: rest)
    else if a = k then (if v = Memory.unlisted then rest else (a, v) :: rest)
    else (k, w) :: Memory.write rest a v

/-- Every address is at least `lo` and below 65536, addresses rise, no byte is `unlisted`. -/
def Memory.wfFrom (lo : Nat) : Memory → Bool
  | [] => true
  | (k, v) :: rest =>
    decide (lo ≤ k) && decide (k < 65536) && decide (v ≠ Memory.unlisted) && Memory.wfFrom (k + 1) rest

/-- The canonical form of memory: equal memories are equal lists. -/
def Memory.wf (m : Memory) : Bool := Memory.wfFrom 0 m

/-- What answers an address: the first region that holds it, else RAM (log 3). -/
def kindAt : List Region → Nat → RegionKind
  | [], _ => .ram
  | r :: rest, a => if r.base ≤ a ∧ a < r.base + r.size then r.kind else kindAt rest a

/-! Register writes. -/

def State.setPc (s : State) (v : Word) : State := { s with pc := v }
def State.setSp (s : State) (v : Byte) : State := { s with sp := v }
def State.setA (s : State) (v : Byte) : State := { s with a := v }
def State.setX (s : State) (v : Byte) : State := { s with x := v }
def State.setY (s : State) (v : Byte) : State := { s with y := v }
def State.setFlags (s : State) (f : Flags) : State := { s with flags := f }

/-- `SetZN(v)` on the state (R11). -/
def State.updateZN (s : State) (v : Byte) : State := s.setFlags (setZN v s.flags)

/-- `cyc <- n`: the cost of the unit of work (R119, R241). -/
def State.charge (s : State) (n : Nat) : State := { s with cyc := BitVec.ofNat 32 n }

/-- A unit of work that ends with cost `n`. -/
def finish (n : Nat) (s : State) : StepResult := .next (s.charge n)

/-! The bus. -/

/-- The byte the bus answers if `a` is read now: for a device a free value of all accesses so far (R79, log 2), else the byte
of memory (R71, R85). -/
def busValue (a : Word) (s : State) : Byte :=
  if kindAt s.busMap a.toNat = .device then Config.deviceByte s.devicesTouched s.busHistory a else s.mem.read a.toNat

/-- The state after a read of `a`: one more event of the history (R10), which may change what devices answer from then on
(R79). -/
def afterRead (a : Word) (s : State) : State := { s with busHistory := .read a (busValue a s) :: s.busHistory }

/-- `MemRead(a, 1)` (R10, R71). -/
def memRead (a : Word) (s : State) : Byte × State := (busValue a s, afterRead a s)

/-- `MemWrite(a, 1, v)` (R10, R71): it always completes (R80); only RAM keeps the byte (R88); its event may change what devices
answer from then on (R79). -/
def memWrite (a : Word) (v : Byte) (s : State) : State :=
  { s with
    mem := if kindAt s.busMap a.toNat = .ram then s.mem.write a.toNat v else s.mem
    busHistory := .write a v :: s.busHistory }

/-- `Read16(lo, hi)`: low byte first, the two addresses independent (R72). -/
def read16 (lo hi : Word) (s : State) : Word × State :=
  let l := memRead lo s
  let h := memRead hi l.2
  (joinBytes h.1 l.1, h.2)

/-- `Fetch8()` (R100). -/
def fetch8 (s : State) : Byte × State :=
  let b := memRead s.pc s
  (b.1, b.2.setPc (s.pc + 1))

/-- `Fetch16()` (R100). -/
def fetch16 (s : State) : Word × State :=
  let w := read16 s.pc (s.pc + 1) s
  (w.1, w.2.setPc (s.pc + 2))

/-- `0x0100 | SP`: the stack byte SP designates (R34). -/
def stackAddr (sp : Byte) : Word := 0x0100 ||| sp.setWidth 16

/-- `Push(v)`: write, then decrement (R76). -/
def push (v : Byte) (s : State) : State := (memWrite (stackAddr s.sp) v s).setSp (s.sp - 1)

/-- `Pull()`: increment, then read (R77). -/
def pull (s : State) : Byte × State := memRead (stackAddr (s.sp + 1)) (s.setSp (s.sp + 1))

/-- The NMI vector's address (R81, R243). -/
def nmiVector : Word := 0xFFFA

/-- The reset vector's address (R81, R282). -/
def resetVector : Word := 0xFFFC

/-- The IRQ and BRK vector's address (R81, R244, R215). -/
def irqVector : Word := 0xFFFE

/-- TAKING AN INTERRUPT, shared by NMI, IRQ and BRK (R245, R215, R250): B <- b4; push PC high, PC low, Pack(b4); I <- 1;
PC from the vector. C, Z, D, V, N, A, X, Y are left alone. -/
def enterInterrupt (b4 : Bool) (vector : Word) (s : State) : State :=
  let s := s.setFlags { s.flags with b := b4 }
  let s := push (hiByte s.pc) s
  let s := push (loByte s.pc) s
  let s := push (pack b4 s.flags) s
  let s := s.setFlags { s.flags with i := true }
  let target := read16 vector (vector + 1) s
  target.2.setPc target.1

/-- RETURNING FROM AN INTERRUPT (R216, R251): Unpack(Pull()), then PC low, PC high, no increment. -/
def returnFromInterrupt (s : State) : State :=
  let p := pull s
  let s := p.2.setFlags (unpack p.1 p.2.flags)
  let lo := pull s
  let hi := pull lo.2
  hi.2.setPc (joinBytes hi.1 lo.1)

/-- The flags `reset()` writes: I = 1, the others 0 (R283, D5). -/
def resetFlags : Flags := { c := false, z := false, i := true, d := false, b := false, v := false, n := false }

/-- `reset(automation)` (R280): SP, the flags, PC (0xC000, or the reset vector), cyc. A, X, Y, the latch, the line and
memory are not written (R284, R286). -/
def hostReset (automation : Bool) (s : State) : State :=
  let s := { s with sp := 0xFD, flags := resetFlags, phase := .running }
  let target := if automation then (0xC000, s) else read16 resetVector (resetVector + 1) s
  (target.2.setPc target.1).charge 7

/-- The process before its first `reset()`: A, X, Y are 0x00 (R284); PC, SP and the flags are of no account (R287, log 5). -/
def processStart : State :=
  { State.reset with
    sp := 0x00
    flags := { c := false, z := false, i := false, d := false, b := false, v := false, n := false }
    cyc := 0
    busHistory := []
    phase := .unreset }

end Sys2Proof.Machine
end

