-- ==== Sys2Proof/Machine/Operands.lean ====
section
/-! DEFINITION. The addressing-mode resolvers (R103-R112) and the three ways an instruction meets its operand (R113): it
reads it, stores to it, or reads and rewrites it; and the branch (R190). -/

namespace Sys2Proof.Machine

/-- What a resolver yields: the effective address, the page-cross bit, the state after its pointer reads. -/
structure Resolved where
  ea : Word
  crossed : Bool
  st : State
deriving DecidableEq, Repr

/-- A byte address in page zero. -/
def zeroPage (z : Byte) : Word := z.setWidth 16

/-- Whether two addresses lie in different pages (R107, R109, R111). -/
def pageCrossed (base ea : Word) : Bool := hiByte base != hiByte ea

/-- Zero page (R104). -/
def resolveZp (z : Byte) (s : State) : Resolved := ⟨zeroPage z, false, s⟩

/-- Zero page indexed: the sum is taken modulo 256 (R105). -/
def resolveZpIndexed (z index : Byte) (s : State) : Resolved := ⟨zeroPage (z + index), false, s⟩

/-- Absolute (R106). -/
def resolveAbs (w : Word) (s : State) : Resolved := ⟨w, false, s⟩

/-- Absolute indexed: the sum is taken modulo 65536 (R107, D4, D27). -/
def resolveAbsIndexed (base : Word) (index : Byte) (s : State) : Resolved :=
  let ea := base + index.setWidth 16
  ⟨ea, pageCrossed base ea, s⟩

/-- Indexed indirect, `(zp,X)`: the pointer and its successor wrap in page zero (R108). -/
def resolveIzx (z : Byte) (s : State) : Resolved :=
  let p := z + s.x
  let r := read16 (zeroPage p) (zeroPage (p + 1)) s
  ⟨r.1, false, r.2⟩

/-- Indirect indexed, `(zp),Y` (R109, D4, D27). -/
def resolveIzy (z : Byte) (s : State) : Resolved :=
  let r := read16 (zeroPage z) (zeroPage (z + 1)) s
  let ea := r.1 + s.y.setWidth 16
  ⟨ea, pageCrossed r.1 ea, r.2⟩

/-- Indirect, JMP only: the high byte is fetched within the pointer's page (R110). -/
def resolveInd (ptr : Word) (s : State) : Resolved :=
  let r := read16 ptr ((ptr &&& 0xFF00) ||| ((ptr + 1) &&& 0x00FF)) s
  ⟨r.1, false, r.2⟩

/-- Relative: PC is already past the branch (R111, D4). -/
def resolveRel (d : Byte) (s : State) : Resolved :=
  let target := s.pc + d.signExtend 16
  ⟨target, pageCrossed s.pc target, s⟩

/-- The effective address of a memory operand (R104-R109). -/
def resolve (a : Addr) (s : State) : Resolved :=
  match a with
  | .zp z => resolveZp z s
  | .zpx z => resolveZpIndexed z s.x s
  | .zpy z => resolveZpIndexed z s.y s
  | .abs w => resolveAbs w s
  | .absx w => resolveAbsIndexed w s.x s
  | .absy w => resolveAbsIndexed w s.y s
  | .izx z => resolveIzx z s
  | .izy z => resolveIzy z s

/-- An operand that has been read: its value, the page-cross bit, the state after the reads. -/
structure Fetched where
  value : Byte
  crossed : Bool
  st : State
deriving DecidableEq, Repr

/-- The operand M of an instruction that only reads it: the immediate value, or one read of the effective address (R103, R113). -/
def readSource (src : Source) (s : State) : Fetched :=
  match src with
  | .imm v => ⟨v, false, s⟩
  | .mem a =>
    let r := resolve a s
    let m := memRead r.ea r.st
    ⟨m.1, r.crossed, m.2⟩

/-- An instruction that reads its operand: the effect of M on the state, at base cost plus the page cross (R113, R114). -/
def readClass (effect : Byte → State → State) (src : Source) (base : Nat) (s : State) : StepResult :=
  let m := readSource src s
  finish (base + m.crossed.toNat) (effect m.value m.st)

/-- A store: one write of the effective address, no read of it, no page-cross cost (R113, R114). -/
def store (v : Byte) (a : Addr) (base : Nat) (s : State) : StepResult :=
  let r := resolve a s
  finish base (memWrite r.ea v r.st)

/-- A read-modify-write: on A, or one read then one write of the effective address; no page-cross cost (R113, R160). -/
def modify (op : Byte → Flags → Byte × Flags) (t : Target) (base : Nat) (s : State) : StepResult :=
  match t with
  | .acc =>
    let q := op s.a s.flags
    finish base ((s.setA q.1).setFlags q.2)
  | .mem a =>
    let r := resolve a s
    let m := memRead r.ea r.st
    let q := op m.1 m.2.flags
    finish base ((memWrite r.ea q.1 m.2).setFlags q.2)

/-- A branch: taken costs one more, and one more again if the target lies in another page (R190). -/
def branch (cond : Bool) (d : Byte) (base : Nat) (s : State) : StepResult :=
  let r := resolveRel d s
  if cond then finish (base + 1 + r.crossed.toNat) (s.setPc r.ea) else finish base s

end Sys2Proof.Machine
end

