-- ==== Sys2Proof/Machine/ArithLogic.lean ====
section
/-! DEFINITION. Arithmetic and logic: the meaning of every instruction of spec/42_arith_logic.md. -/

namespace Sys2Proof.Machine

/-- ADC: A and C, V, Z, N; D is not read (R151). -/
def adcEffect (m : Byte) (s : State) : State := (s.setA (adcResult s.a m s.flags.c)).setFlags (adcFlags s.a m s.flags)

/-- 0x69, ADC #nn (R151). -/
def execAdcImm (v : Byte) (s : State) : StepResult := readClass adcEffect (.imm v) 2 s

/-- 0x65, ADC nn (R151). -/
def execAdcZp (z : Byte) (s : State) : StepResult := readClass adcEffect (.mem (.zp z)) 3 s

/-- 0x75, ADC nn,X (R151). -/
def execAdcZpx (z : Byte) (s : State) : StepResult := readClass adcEffect (.mem (.zpx z)) 4 s

/-- 0x6D, ADC hhll (R151). -/
def execAdcAbs (w : Word) (s : State) : StepResult := readClass adcEffect (.mem (.abs w)) 4 s

/-- 0x7D, ADC hhll,X (R151). -/
def execAdcAbsx (w : Word) (s : State) : StepResult := readClass adcEffect (.mem (.absx w)) 4 s

/-- 0x79, ADC hhll,Y (R151). -/
def execAdcAbsy (w : Word) (s : State) : StepResult := readClass adcEffect (.mem (.absy w)) 4 s

/-- 0x61, ADC (nn,X) (R151). -/
def execAdcIzx (z : Byte) (s : State) : StepResult := readClass adcEffect (.mem (.izx z)) 6 s

/-- 0x71, ADC (nn),Y (R151). -/
def execAdcIzy (z : Byte) (s : State) : StepResult := readClass adcEffect (.mem (.izy z)) 5 s

/-- SBC: A and C, V, Z, N; D is not read (R152). -/
def sbcEffect (m : Byte) (s : State) : State := (s.setA (sbcResult s.a m s.flags.c)).setFlags (sbcFlags s.a m s.flags)

/-- 0xE9, SBC #nn (R152). -/
def execSbcImm (v : Byte) (s : State) : StepResult := readClass sbcEffect (.imm v) 2 s

/-- 0xE5, SBC nn (R152). -/
def execSbcZp (z : Byte) (s : State) : StepResult := readClass sbcEffect (.mem (.zp z)) 3 s

/-- 0xF5, SBC nn,X (R152). -/
def execSbcZpx (z : Byte) (s : State) : StepResult := readClass sbcEffect (.mem (.zpx z)) 4 s

/-- 0xED, SBC hhll (R152). -/
def execSbcAbs (w : Word) (s : State) : StepResult := readClass sbcEffect (.mem (.abs w)) 4 s

/-- 0xFD, SBC hhll,X (R152). -/
def execSbcAbsx (w : Word) (s : State) : StepResult := readClass sbcEffect (.mem (.absx w)) 4 s

/-- 0xF9, SBC hhll,Y (R152). -/
def execSbcAbsy (w : Word) (s : State) : StepResult := readClass sbcEffect (.mem (.absy w)) 4 s

/-- 0xE1, SBC (nn,X) (R152). -/
def execSbcIzx (z : Byte) (s : State) : StepResult := readClass sbcEffect (.mem (.izx z)) 6 s

/-- 0xF1, SBC (nn),Y (R152). -/
def execSbcIzy (z : Byte) (s : State) : StepResult := readClass sbcEffect (.mem (.izy z)) 5 s

/-- AND: A <- A & M; SetZN(A) (R153). -/
def andEffect (m : Byte) (s : State) : State := (s.setA (s.a &&& m)).updateZN (s.a &&& m)

/-- 0x29, AND #nn (R153). -/
def execAndImm (v : Byte) (s : State) : StepResult := readClass andEffect (.imm v) 2 s

/-- 0x25, AND nn (R153). -/
def execAndZp (z : Byte) (s : State) : StepResult := readClass andEffect (.mem (.zp z)) 3 s

/-- 0x35, AND nn,X (R153). -/
def execAndZpx (z : Byte) (s : State) : StepResult := readClass andEffect (.mem (.zpx z)) 4 s

/-- 0x2D, AND hhll (R153). -/
def execAndAbs (w : Word) (s : State) : StepResult := readClass andEffect (.mem (.abs w)) 4 s

/-- 0x3D, AND hhll,X (R153). -/
def execAndAbsx (w : Word) (s : State) : StepResult := readClass andEffect (.mem (.absx w)) 4 s

/-- 0x39, AND hhll,Y (R153). -/
def execAndAbsy (w : Word) (s : State) : StepResult := readClass andEffect (.mem (.absy w)) 4 s

/-- 0x21, AND (nn,X) (R153). -/
def execAndIzx (z : Byte) (s : State) : StepResult := readClass andEffect (.mem (.izx z)) 6 s

/-- 0x31, AND (nn),Y (R153). -/
def execAndIzy (z : Byte) (s : State) : StepResult := readClass andEffect (.mem (.izy z)) 5 s

/-- ORA: A <- A | M; SetZN(A) (R154). -/
def oraEffect (m : Byte) (s : State) : State := (s.setA (s.a ||| m)).updateZN (s.a ||| m)

/-- 0x09, ORA #nn (R154). -/
def execOraImm (v : Byte) (s : State) : StepResult := readClass oraEffect (.imm v) 2 s

/-- 0x05, ORA nn (R154). -/
def execOraZp (z : Byte) (s : State) : StepResult := readClass oraEffect (.mem (.zp z)) 3 s

/-- 0x15, ORA nn,X (R154). -/
def execOraZpx (z : Byte) (s : State) : StepResult := readClass oraEffect (.mem (.zpx z)) 4 s

/-- 0x0D, ORA hhll (R154). -/
def execOraAbs (w : Word) (s : State) : StepResult := readClass oraEffect (.mem (.abs w)) 4 s

/-- 0x1D, ORA hhll,X (R154). -/
def execOraAbsx (w : Word) (s : State) : StepResult := readClass oraEffect (.mem (.absx w)) 4 s

/-- 0x19, ORA hhll,Y (R154). -/
def execOraAbsy (w : Word) (s : State) : StepResult := readClass oraEffect (.mem (.absy w)) 4 s

/-- 0x01, ORA (nn,X) (R154). -/
def execOraIzx (z : Byte) (s : State) : StepResult := readClass oraEffect (.mem (.izx z)) 6 s

/-- 0x11, ORA (nn),Y (R154). -/
def execOraIzy (z : Byte) (s : State) : StepResult := readClass oraEffect (.mem (.izy z)) 5 s

/-- EOR: A <- A ^ M; SetZN(A) (R155). -/
def eorEffect (m : Byte) (s : State) : State := (s.setA (s.a ^^^ m)).updateZN (s.a ^^^ m)

/-- 0x49, EOR #nn (R155). -/
def execEorImm (v : Byte) (s : State) : StepResult := readClass eorEffect (.imm v) 2 s

/-- 0x45, EOR nn (R155). -/
def execEorZp (z : Byte) (s : State) : StepResult := readClass eorEffect (.mem (.zp z)) 3 s

/-- 0x55, EOR nn,X (R155). -/
def execEorZpx (z : Byte) (s : State) : StepResult := readClass eorEffect (.mem (.zpx z)) 4 s

/-- 0x4D, EOR hhll (R155). -/
def execEorAbs (w : Word) (s : State) : StepResult := readClass eorEffect (.mem (.abs w)) 4 s

/-- 0x5D, EOR hhll,X (R155). -/
def execEorAbsx (w : Word) (s : State) : StepResult := readClass eorEffect (.mem (.absx w)) 4 s

/-- 0x59, EOR hhll,Y (R155). -/
def execEorAbsy (w : Word) (s : State) : StepResult := readClass eorEffect (.mem (.absy w)) 4 s

/-- 0x41, EOR (nn,X) (R155). -/
def execEorIzx (z : Byte) (s : State) : StepResult := readClass eorEffect (.mem (.izx z)) 6 s

/-- 0x51, EOR (nn),Y (R155). -/
def execEorIzy (z : Byte) (s : State) : StepResult := readClass eorEffect (.mem (.izy z)) 5 s

end Sys2Proof.Machine
end

