-- ==== Sys2Proof/Machine/Branch.lean ====
section
/-! DEFINITION. Branches: the meaning of every instruction of spec/46_branch.md. -/

namespace Sys2Proof.Machine

/-- 0x10, BPL: branch if N = 0 (R191, R190). -/
def execBpl (d : Byte) (s : State) : StepResult := branch (!s.flags.n) d 2 s

/-- 0x30, BMI: branch if N = 1 (R192, R190). -/
def execBmi (d : Byte) (s : State) : StepResult := branch (s.flags.n) d 2 s

/-- 0x50, BVC: branch if V = 0 (R193, R190). -/
def execBvc (d : Byte) (s : State) : StepResult := branch (!s.flags.v) d 2 s

/-- 0x70, BVS: branch if V = 1 (R194, R190). -/
def execBvs (d : Byte) (s : State) : StepResult := branch (s.flags.v) d 2 s

/-- 0x90, BCC: branch if C = 0 (R195, R190). -/
def execBcc (d : Byte) (s : State) : StepResult := branch (!s.flags.c) d 2 s

/-- 0xB0, BCS: branch if C = 1 (R196, R190). -/
def execBcs (d : Byte) (s : State) : StepResult := branch (s.flags.c) d 2 s

/-- 0xD0, BNE: branch if Z = 0 (R197, R190). -/
def execBne (d : Byte) (s : State) : StepResult := branch (!s.flags.z) d 2 s

/-- 0xF0, BEQ: branch if Z = 1 (R198, R190). -/
def execBeq (d : Byte) (s : State) : StepResult := branch (s.flags.z) d 2 s

end Sys2Proof.Machine
end

