-- ==== Sys2Proof/Machine/BrkRti.lean ====
section
/-! DEFINITION. BRK and RTI: the meaning of every instruction of spec/48_brk_rti.md. -/

namespace Sys2Proof.Machine

/-- 0x00, BRK: PC past the padding byte, then the interrupt entry with B = 1 (R215). -/
def execBrk (s : State) : StepResult := finish 7 (enterInterrupt true irqVector (s.setPc (s.pc + 1)))

/-- 0x40, RTI: the return from interrupt (R216). -/
def execRti (s : State) : StepResult := finish 6 (returnFromInterrupt s)

end Sys2Proof.Machine
end

