-- ==== Sys2Proof/Machine/CompareBit.lean ====
section
/-! DEFINITION. Compare and bit test: the meaning of every instruction of spec/45_compare_bit.md. -/

namespace Sys2Proof.Machine

/-- CMP: Compare(A, M) (R181). -/
def cmpEffect (m : Byte) (s : State) : State := s.setFlags (compareFlags s.a m s.flags)

/-- 0xC9, CMP #nn (R181). -/
def execCmpImm (v : Byte) (s : State) : StepResult := readClass cmpEffect (.imm v) 2 s

/-- 0xC5, CMP nn (R181). -/
def execCmpZp (z : Byte) (s : State) : StepResult := readClass cmpEffect (.mem (.zp z)) 3 s

/-- 0xD5, CMP nn,X (R181). -/
def execCmpZpx (z : Byte) (s : State) : StepResult := readClass cmpEffect (.mem (.zpx z)) 4 s

/-- 0xCD, CMP hhll (R181). -/
def execCmpAbs (w : Word) (s : State) : StepResult := readClass cmpEffect (.mem (.abs w)) 4 s

/-- 0xDD, CMP hhll,X (R181). -/
def execCmpAbsx (w : Word) (s : State) : StepResult := readClass cmpEffect (.mem (.absx w)) 4 s

/-- 0xD9, CMP hhll,Y (R181). -/
def execCmpAbsy (w : Word) (s : State) : StepResult := readClass cmpEffect (.mem (.absy w)) 4 s

/-- 0xC1, CMP (nn,X) (R181). -/
def execCmpIzx (z : Byte) (s : State) : StepResult := readClass cmpEffect (.mem (.izx z)) 6 s

/-- 0xD1, CMP (nn),Y (R181). -/
def execCmpIzy (z : Byte) (s : State) : StepResult := readClass cmpEffect (.mem (.izy z)) 5 s

/-- CPX: Compare(X, M) (R182). -/
def cpxEffect (m : Byte) (s : State) : State := s.setFlags (compareFlags s.x m s.flags)

/-- 0xE0, CPX #nn (R182). -/
def execCpxImm (v : Byte) (s : State) : StepResult := readClass cpxEffect (.imm v) 2 s

/-- 0xE4, CPX nn (R182). -/
def execCpxZp (z : Byte) (s : State) : StepResult := readClass cpxEffect (.mem (.zp z)) 3 s

/-- 0xEC, CPX hhll (R182). -/
def execCpxAbs (w : Word) (s : State) : StepResult := readClass cpxEffect (.mem (.abs w)) 4 s

/-- CPY: Compare(Y, M) (R183). -/
def cpyEffect (m : Byte) (s : State) : State := s.setFlags (compareFlags s.y m s.flags)

/-- 0xC0, CPY #nn (R183). -/
def execCpyImm (v : Byte) (s : State) : StepResult := readClass cpyEffect (.imm v) 2 s

/-- 0xC4, CPY nn (R183). -/
def execCpyZp (z : Byte) (s : State) : StepResult := readClass cpyEffect (.mem (.zp z)) 3 s

/-- 0xCC, CPY hhll (R183). -/
def execCpyAbs (w : Word) (s : State) : StepResult := readClass cpyEffect (.mem (.abs w)) 4 s

/-- BIT: Z, N, V from M and A (R184). -/
def bitEffect (m : Byte) (s : State) : State := s.setFlags (bitFlags s.a m s.flags)

/-- 0x24, BIT nn (R184). -/
def execBitZp (z : Byte) (s : State) : StepResult := readClass bitEffect (.mem (.zp z)) 3 s

/-- 0x2C, BIT hhll (R184). -/
def execBitAbs (w : Word) (s : State) : StepResult := readClass bitEffect (.mem (.abs w)) 4 s

end Sys2Proof.Machine
end

