-- ==== Sys2Proof/Machine/IncDec.lean ====
section
/-! DEFINITION. Increments and decrements: the meaning of every instruction of spec/44_inc_dec.md. -/

namespace Sys2Proof.Machine

/-- 0xE6, INC nn (R170). -/
def execIncZp (z : Byte) (s : State) : StepResult := modify incOp (.mem (.zp z)) 5 s

/-- 0xF6, INC nn,X (R170). -/
def execIncZpx (z : Byte) (s : State) : StepResult := modify incOp (.mem (.zpx z)) 6 s

/-- 0xEE, INC hhll (R170). -/
def execIncAbs (w : Word) (s : State) : StepResult := modify incOp (.mem (.abs w)) 6 s

/-- 0xFE, INC hhll,X (R170). -/
def execIncAbsx (w : Word) (s : State) : StepResult := modify incOp (.mem (.absx w)) 7 s

/-- 0xC6, DEC nn (R171). -/
def execDecZp (z : Byte) (s : State) : StepResult := modify decOp (.mem (.zp z)) 5 s

/-- 0xD6, DEC nn,X (R171). -/
def execDecZpx (z : Byte) (s : State) : StepResult := modify decOp (.mem (.zpx z)) 6 s

/-- 0xCE, DEC hhll (R171). -/
def execDecAbs (w : Word) (s : State) : StepResult := modify decOp (.mem (.abs w)) 6 s

/-- 0xDE, DEC hhll,X (R171). -/
def execDecAbsx (w : Word) (s : State) : StepResult := modify decOp (.mem (.absx w)) 7 s

/-- 0xE8, INX: X <- u8(X + 1); SetZN(X) (R172). -/
def execInx (s : State) : StepResult := finish 2 ((s.setX (s.x + 1)).updateZN (s.x + 1))

/-- 0xC8, INY: Y <- u8(Y + 1); SetZN(Y) (R173). -/
def execIny (s : State) : StepResult := finish 2 ((s.setY (s.y + 1)).updateZN (s.y + 1))

/-- 0xCA, DEX: X <- u8(X − 1); SetZN(X) (R174). -/
def execDex (s : State) : StepResult := finish 2 ((s.setX (s.x - 1)).updateZN (s.x - 1))

/-- 0x88, DEY: Y <- u8(Y − 1); SetZN(Y) (R175). -/
def execDey (s : State) : StepResult := finish 2 ((s.setY (s.y - 1)).updateZN (s.y - 1))

end Sys2Proof.Machine
end

