-- ==== Sys2Proof/Machine/JumpStack.lean ====
section
/-! DEFINITION. Jumps, subroutines and the stack: the meaning of every instruction of spec/47_jump_stack.md. -/

namespace Sys2Proof.Machine

/-- 0x4C, JMP hhll (R200). -/
def execJmpAbs (w : Word) (s : State) : StepResult := finish 3 (s.setPc (resolveAbs w s).ea)

/-- 0x6C, JMP (hhll) (R200). -/
def execJmpInd (w : Word) (s : State) : StepResult :=
  let r := resolveInd w s
  finish 5 (r.st.setPc r.ea)

/-- 0x20, JSR: push PC − 1 high then low, then PC <- the target (R201). -/
def execJsr (w : Word) (s : State) : StepResult :=
  let ret := s.pc - 1
  finish 6 ((push (loByte ret) (push (hiByte ret) s)).setPc (resolveAbs w s).ea)

/-- 0x60, RTS: pull low, pull high, PC one past it (R202). -/
def execRts (s : State) : StepResult :=
  let lo := pull s
  let hi := pull lo.2
  finish 6 (hi.2.setPc (joinBytes hi.1 lo.1 + 1))

/-- 0x48, PHA: Push(A) (R203). -/
def execPha (s : State) : StepResult := finish 3 (push s.a s)

/-- 0x08, PHP: Push(Pack(1)); the stored B is not written (R204). -/
def execPhp (s : State) : StepResult := finish 3 (push (pack true s.flags) s)

/-- 0x68, PLA: A <- Pull(); SetZN(A) (R205). -/
def execPla (s : State) : StepResult :=
  let p := pull s
  finish 4 ((p.2.setA p.1).updateZN p.1)

/-- 0x28, PLP: Unpack(Pull()) (R206). -/
def execPlp (s : State) : StepResult :=
  let p := pull s
  finish 4 (p.2.setFlags (unpack p.1 p.2.flags))

end Sys2Proof.Machine
end

