-- ==== Sys2Proof/Machine/LoadStore.lean ====
section
/-! DEFINITION. Loads and stores: the meaning of every instruction of spec/41_load_store.md. -/

namespace Sys2Proof.Machine

/-- LDA: A <- M; SetZN(A) (R140). -/
def ldaEffect (m : Byte) (s : State) : State := (s.setA m).updateZN m

/-- 0xA9, LDA #nn (R140). -/
def execLdaImm (v : Byte) (s : State) : StepResult := readClass ldaEffect (.imm v) 2 s

/-- 0xA5, LDA nn (R140). -/
def execLdaZp (z : Byte) (s : State) : StepResult := readClass ldaEffect (.mem (.zp z)) 3 s

/-- 0xB5, LDA nn,X (R140). -/
def execLdaZpx (z : Byte) (s : State) : StepResult := readClass ldaEffect (.mem (.zpx z)) 4 s

/-- 0xAD, LDA hhll (R140). -/
def execLdaAbs (w : Word) (s : State) : StepResult := readClass ldaEffect (.mem (.abs w)) 4 s

/-- 0xBD, LDA hhll,X (R140). -/
def execLdaAbsx (w : Word) (s : State) : StepResult := readClass ldaEffect (.mem (.absx w)) 4 s

/-- 0xB9, LDA hhll,Y (R140). -/
def execLdaAbsy (w : Word) (s : State) : StepResult := readClass ldaEffect (.mem (.absy w)) 4 s

/-- 0xA1, LDA (nn,X) (R140). -/
def execLdaIzx (z : Byte) (s : State) : StepResult := readClass ldaEffect (.mem (.izx z)) 6 s

/-- 0xB1, LDA (nn),Y (R140). -/
def execLdaIzy (z : Byte) (s : State) : StepResult := readClass ldaEffect (.mem (.izy z)) 5 s

/-- LDX: X <- M; SetZN(X) (R141). -/
def ldxEffect (m : Byte) (s : State) : State := (s.setX m).updateZN m

/-- 0xA2, LDX #nn (R141). -/
def execLdxImm (v : Byte) (s : State) : StepResult := readClass ldxEffect (.imm v) 2 s

/-- 0xA6, LDX nn (R141). -/
def execLdxZp (z : Byte) (s : State) : StepResult := readClass ldxEffect (.mem (.zp z)) 3 s

/-- 0xB6, LDX nn,Y (R141). -/
def execLdxZpy (z : Byte) (s : State) : StepResult := readClass ldxEffect (.mem (.zpy z)) 4 s

/-- 0xAE, LDX hhll (R141). -/
def execLdxAbs (w : Word) (s : State) : StepResult := readClass ldxEffect (.mem (.abs w)) 4 s

/-- 0xBE, LDX hhll,Y (R141). -/
def execLdxAbsy (w : Word) (s : State) : StepResult := readClass ldxEffect (.mem (.absy w)) 4 s

/-- LDY: Y <- M; SetZN(Y) (R142). -/
def ldyEffect (m : Byte) (s : State) : State := (s.setY m).updateZN m

/-- 0xA0, LDY #nn (R142). -/
def execLdyImm (v : Byte) (s : State) : StepResult := readClass ldyEffect (.imm v) 2 s

/-- 0xA4, LDY nn (R142). -/
def execLdyZp (z : Byte) (s : State) : StepResult := readClass ldyEffect (.mem (.zp z)) 3 s

/-- 0xB4, LDY nn,X (R142). -/
def execLdyZpx (z : Byte) (s : State) : StepResult := readClass ldyEffect (.mem (.zpx z)) 4 s

/-- 0xAC, LDY hhll (R142). -/
def execLdyAbs (w : Word) (s : State) : StepResult := readClass ldyEffect (.mem (.abs w)) 4 s

/-- 0xBC, LDY hhll,X (R142). -/
def execLdyAbsx (w : Word) (s : State) : StepResult := readClass ldyEffect (.mem (.absx w)) 4 s

/-- 0x85, STA nn (R143). -/
def execStaZp (z : Byte) (s : State) : StepResult := store s.a (.zp z) 3 s

/-- 0x95, STA nn,X (R143). -/
def execStaZpx (z : Byte) (s : State) : StepResult := store s.a (.zpx z) 4 s

/-- 0x8D, STA hhll (R143). -/
def execStaAbs (w : Word) (s : State) : StepResult := store s.a (.abs w) 4 s

/-- 0x9D, STA hhll,X (R143). -/
def execStaAbsx (w : Word) (s : State) : StepResult := store s.a (.absx w) 5 s

/-- 0x99, STA hhll,Y (R143). -/
def execStaAbsy (w : Word) (s : State) : StepResult := store s.a (.absy w) 5 s

/-- 0x81, STA (nn,X) (R143). -/
def execStaIzx (z : Byte) (s : State) : StepResult := store s.a (.izx z) 6 s

/-- 0x91, STA (nn),Y (R143). -/
def execStaIzy (z : Byte) (s : State) : StepResult := store s.a (.izy z) 6 s

/-- 0x86, STX nn (R144). -/
def execStxZp (z : Byte) (s : State) : StepResult := store s.x (.zp z) 3 s

/-- 0x96, STX nn,Y (R144). -/
def execStxZpy (z : Byte) (s : State) : StepResult := store s.x (.zpy z) 4 s

/-- 0x8E, STX hhll (R144). -/
def execStxAbs (w : Word) (s : State) : StepResult := store s.x (.abs w) 4 s

/-- 0x84, STY nn (R145). -/
def execStyZp (z : Byte) (s : State) : StepResult := store s.y (.zp z) 3 s

/-- 0x94, STY nn,X (R145). -/
def execStyZpx (z : Byte) (s : State) : StepResult := store s.y (.zpx z) 4 s

/-- 0x8C, STY hhll (R145). -/
def execStyAbs (w : Word) (s : State) : StepResult := store s.y (.abs w) 4 s

end Sys2Proof.Machine
end

