-- ==== Sys2Proof/Machine/ShiftRotate.lean ====
section
/-! DEFINITION. Shifts and rotates: the meaning of every instruction of spec/43_shift_rotate.md. -/

namespace Sys2Proof.Machine

/-- 0x0A, ASL A (R161). -/
def execAslAcc (s : State) : StepResult := modify aslOp .acc 2 s

/-- 0x06, ASL nn (R161). -/
def execAslZp (z : Byte) (s : State) : StepResult := modify aslOp (.mem (.zp z)) 5 s

/-- 0x16, ASL nn,X (R161). -/
def execAslZpx (z : Byte) (s : State) : StepResult := modify aslOp (.mem (.zpx z)) 6 s

/-- 0x0E, ASL hhll (R161). -/
def execAslAbs (w : Word) (s : State) : StepResult := modify aslOp (.mem (.abs w)) 6 s

/-- 0x1E, ASL hhll,X (R161). -/
def execAslAbsx (w : Word) (s : State) : StepResult := modify aslOp (.mem (.absx w)) 7 s

/-- 0x4A, LSR A (R162). -/
def execLsrAcc (s : State) : StepResult := modify lsrOp .acc 2 s

/-- 0x46, LSR nn (R162). -/
def execLsrZp (z : Byte) (s : State) : StepResult := modify lsrOp (.mem (.zp z)) 5 s

/-- 0x56, LSR nn,X (R162). -/
def execLsrZpx (z : Byte) (s : State) : StepResult := modify lsrOp (.mem (.zpx z)) 6 s

/-- 0x4E, LSR hhll (R162). -/
def execLsrAbs (w : Word) (s : State) : StepResult := modify lsrOp (.mem (.abs w)) 6 s

/-- 0x5E, LSR hhll,X (R162). -/
def execLsrAbsx (w : Word) (s : State) : StepResult := modify lsrOp (.mem (.absx w)) 7 s

/-- 0x2A, ROL A (R163). -/
def execRolAcc (s : State) : StepResult := modify rolOp .acc 2 s

/-- 0x26, ROL nn (R163). -/
def execRolZp (z : Byte) (s : State) : StepResult := modify rolOp (.mem (.zp z)) 5 s

/-- 0x36, ROL nn,X (R163). -/
def execRolZpx (z : Byte) (s : State) : StepResult := modify rolOp (.mem (.zpx z)) 6 s

/-- 0x2E, ROL hhll (R163). -/
def execRolAbs (w : Word) (s : State) : StepResult := modify rolOp (.mem (.abs w)) 6 s

/-- 0x3E, ROL hhll,X (R163). -/
def execRolAbsx (w : Word) (s : State) : StepResult := modify rolOp (.mem (.absx w)) 7 s

/-- 0x6A, ROR A (R164). -/
def execRorAcc (s : State) : StepResult := modify rorOp .acc 2 s

/-- 0x66, ROR nn (R164). -/
def execRorZp (z : Byte) (s : State) : StepResult := modify rorOp (.mem (.zp z)) 5 s

/-- 0x76, ROR nn,X (R164). -/
def execRorZpx (z : Byte) (s : State) : StepResult := modify rorOp (.mem (.zpx z)) 6 s

/-- 0x6E, ROR hhll (R164). -/
def execRorAbs (w : Word) (s : State) : StepResult := modify rorOp (.mem (.abs w)) 6 s

/-- 0x7E, ROR hhll,X (R164). -/
def execRorAbsx (w : Word) (s : State) : StepResult := modify rorOp (.mem (.absx w)) 7 s

end Sys2Proof.Machine
end

