-- ==== Sys2Proof/Machine/TransferFlag.lean ====
section
/-! DEFINITION. Transfers, flag instructions and NOP: the meaning of every instruction of spec/49_transfer_flag_nop.md. -/

namespace Sys2Proof.Machine

/-- 0xAA, TAX: X <- A; SetZN(X) (R220). -/
def execTax (s : State) : StepResult := finish 2 ((s.setX s.a).updateZN s.a)

/-- 0xA8, TAY: Y <- A; SetZN(Y) (R221). -/
def execTay (s : State) : StepResult := finish 2 ((s.setY s.a).updateZN s.a)

/-- 0x8A, TXA: A <- X; SetZN(A) (R222). -/
def execTxa (s : State) : StepResult := finish 2 ((s.setA s.x).updateZN s.x)

/-- 0x98, TYA: A <- Y; SetZN(A) (R223). -/
def execTya (s : State) : StepResult := finish 2 ((s.setA s.y).updateZN s.y)

/-- 0xBA, TSX: X <- SP; SetZN(X) (R224). -/
def execTsx (s : State) : StepResult := finish 2 ((s.setX s.sp).updateZN s.sp)

/-- 0x9A, TXS: SP <- X, no flag (R225). -/
def execTxs (s : State) : StepResult := finish 2 (s.setSp s.x)

/-- 0x18, CLC: C <- 0 (R226). -/
def execClc (s : State) : StepResult := finish 2 (s.setFlags { s.flags with c := false })

/-- 0xD8, CLD: D <- 0 (R227). -/
def execCld (s : State) : StepResult := finish 2 (s.setFlags { s.flags with d := false })

/-- 0x58, CLI: I <- 0 (R228). -/
def execCli (s : State) : StepResult := finish 2 (s.setFlags { s.flags with i := false })

/-- 0xB8, CLV: V <- 0 (R229). -/
def execClv (s : State) : StepResult := finish 2 (s.setFlags { s.flags with v := false })

/-- 0x38, SEC: C <- 1 (R230). -/
def execSec (s : State) : StepResult := finish 2 (s.setFlags { s.flags with c := true })

/-- 0xF8, SED: D <- 1 (R231). -/
def execSed (s : State) : StepResult := finish 2 (s.setFlags { s.flags with d := true })

/-- 0x78, SEI: I <- 1 (R232). -/
def execSei (s : State) : StepResult := finish 2 (s.setFlags { s.flags with i := true })

/-- 0xEA, NOP: nothing but its cycles (R233). -/
def execNop (s : State) : StepResult := finish 2 s

end Sys2Proof.Machine
end

