-- ==== Sys2Proof/Machine/Engine.lean ====
section
/-! DEFINITION. The execution engine: opcode dispatch with its trace report (R246, R256), unknown opcodes (R252, R253), the
interrupt services (R243, R244), the boundary sequence (R241), the tick (R240), and the host's calls (R264). -/

namespace Sys2Proof.Machine

/-- The report of the trace hook, if a logger is attached: it alters nothing else (R256). The snapshot packs the stored B (R40). -/
def trace (pc : Word) (op : Byte) (s : State) : State :=
  if s.config.traceHook then
    { s with traceLog := ⟨pc, op, s.a, s.x, s.y, pack s.flags.b s.flags, s.sp⟩ :: s.traceLog }
  else s

/-- An opcode byte with no table entry, fetched at `pc`: in Strict mode a fault that halts the core with PC back at `pc`, the
bus read and the report standing (R252); else a report and a one-byte no-op of 2 cycles (R253, R257). -/
def unknownOpcode (op : Byte) (pc : Word) (s : State) : StepResult :=
  match s.config.policy with
  | .strict => .fault (.unhandledOpcode op pc (s.setPc pc))
  | .permissive => finish 2 { s with diagLog := ⟨op, pc⟩ :: s.diagLog }

/-- `Dispatch` (R246): fetch the opcode, report it, look it up, fetch its operand bytes (R120), run it. -/
def dispatch (s : State) : StepResult :=
  let op := fetch8 s
  let t := trace s.pc op.1 op.2
  match lookup op.1 with
  | none => unknownOpcode op.1 s.pc t
  | some row =>
    match row.form with
    | .bare i => exec i t
    | .byte k =>
      let b := fetch8 t
      exec (k b.1) b.2
    | .word k =>
      let w := fetch16 t
      exec (k w.1) w.2

/-- The NMI service: clear the latch, enter through the NMI vector, 7 cycles (R243). -/
def serviceNmi (s : State) : StepResult := finish 7 (enterInterrupt false nmiVector { s with nmiLatch := false })

/-- The IRQ service: enter through the IRQ vector, 7 cycles; the line is not acknowledged (R244). -/
def serviceIrq (s : State) : StepResult := finish 7 (enterInterrupt false irqVector s)

/-- The boundary sequence: NMI, then an unmasked IRQ, then the next opcode (R241, R248). -/
def boundary (s : State) : StepResult :=
  if s.nmiLatch then serviceNmi s
  else if !s.flags.i && s.irqLine then serviceIrq s
  else dispatch s

/-- `tick()`: count down, or run the boundary sequence (R240); not defined before the first reset (R287). -/
def tick (s : State) : StepResult :=
  match s.phase with
  | .unreset => .refused .tickBeforeReset
  | .running => if s.cyc = 0 then boundary s else .next { s with cyc := s.cyc - 1 }

/-- One call or act of the host (R264). Changing memory or the devices is the bus's own affair and is no event of the core's
history (R85). -/
def hostCall (call : HostCall) (s : State) : StepResult :=
  match call with
  | .tick => tick s
  | .reset automation => .next (hostReset automation s)
  | .setNmiLatch latched => .next { s with nmiLatch := latched }
  | .driveIrq level => .next { s with irqLine := level }
  | .pokeBus a v => .next { s with mem := s.mem.write a.toNat v }
  | .touchDevices touch => .next { s with devicesTouched := touch }

/-- Bytes stored at PC and on, wrapping modulo 65536 (R36): the host's placing of an instruction. -/
def plantBytes (bytes : List Byte) (pc : Word) (m : Memory) : Memory :=
  match bytes with
  | [] => m
  | b :: rest => plantBytes rest (pc + 1) (m.write pc.toNat b)

/-- The state in which the very next step dispatches the opcode at PC: at a boundary (R240), no interrupt to take (R241), the
host's next call a tick, and no device where the instruction is fetched. -/
def readyToDispatch (s : State) : State :=
  { s with
    cyc := 0
    phase := .running
    nmiLatch := false
    irqLine := s.irqLine && s.flags.i
    schedule := if s.schedule = [] then [] else .tick :: s.schedule
    busMap :=
      if kindAt s.busMap s.pc.toNat = .device ∨ kindAt s.busMap (s.pc + 1).toNat = .device ∨
        kindAt s.busMap (s.pc + 2).toNat = .device then [] else s.busMap }

end Sys2Proof.Machine
end

