-- ==== Sys2Proof/Machine/Step.lean ====
section
/-! DEFINITION. One step of the machine: the host's next call, and a `tick()` when none is scheduled (R240, R264, log 4). -/

namespace Sys2Proof.Machine

/-- One step. -/
def step (s : State) : StepResult :=
  match s.schedule with
  | [] => tick s
  | call :: later => hostCall call { s with schedule := later }

/-- The state with an opcode-table word stored where the next step fetches, and that step sure to fetch it (log 5). -/
def State.withFetchWord (s : State) (nbits w : Nat) : State :=
  let s := readyToDispatch s
  { s with mem := plantBytes (tableBytes nbits w) s.pc s.mem }

end Sys2Proof.Machine
end

