-- ==== Sys2Proof/Safety.lean ====
section
/-! DEFINITION. The vocabulary of the claims: the invariant, what a run's history says of memory, the forms of each
instruction with their costs, and what an instruction leaves unchanged. -/

namespace Sys2Proof.Safety

open Sys2Proof.Machine

/-- The invariant of every state a run reaches: memory in its canonical form, the countdown at most the largest cost (R49, R119). -/
def Inv (s : State) : Prop := s.mem.wf = true ∧ s.cyc.toNat ≤ 7

/-! When a step is what. -/

/-- `k` steps one after another, stopping at the first fault or refusal (R240). -/
def steps : Nat → State → StepResult
  | 0, s => .next s
  | k + 1, s =>
    match step s with
    | .next t => steps k t
    | .fault r => .fault r
    | .refused r => .refused r

/-- The host's next call is a tick: scheduled, or by default (R264). -/
def NextIsTick (s : State) : Prop := s.schedule = [] ∨ ∃ later, s.schedule = .tick :: later

/-- The next step is a tick of a core that has been reset (R240, R287). -/
def Ticking (s : State) : Prop := s.phase = .running ∧ NextIsTick s

/-- The next step is an instruction boundary (R240, R241). -/
def AtBoundary (s : State) : Prop := Ticking s ∧ s.cyc = 0

/-- The next step dispatches an opcode: a boundary with no NMI latched and no IRQ to take (R241). -/
def AtDispatch (s : State) : Prop := AtBoundary s ∧ s.nmiLatch = false ∧ (s.flags.i = true ∨ s.irqLine = false)

/-- The state once the host's call has been taken off the schedule. -/
def afterCall (s : State) : State := { s with schedule := s.schedule.tail }

/-- The bytes of memory at PC and on (R100, R36). -/
def codeAt (s : State) : Nat → List Byte
  | 0 => []
  | n + 1 => codeAt s n ++ [s.mem.read (s.pc + BitVec.ofNat 16 n).toNat]

/-- No device answers the first `n` bytes at PC. -/
def CodeReadable (s : State) (n : Nat) : Prop :=
  ∀ k, k < n → kindAt s.busMap (s.pc + BitVec.ofNat 16 k).toNat ≠ .device

/-- The bus events of fetching the given bytes at `pc` and on, oldest first (R100). -/
def fetchEvents (pc : Word) : List Byte → List BusEvent
  | [] => []
  | b :: rest => .read pc b :: fetchEvents (pc + 1) rest

/-- The trace report of an opcode about to run (R256). -/
def report (s : State) (op : Byte) : List TraceEntry :=
  if s.config.traceHook then [⟨s.pc, op, s.a, s.x, s.y, pack s.flags.b s.flags, s.sp⟩] else []

/-- What fetching the given bytes of an instruction does before the instruction runs: PC moves past them, each is one read of
the history, the trace hook reports the opcode (R100, R246, R256). -/
def afterFetch (s : State) (op : Byte) (operand : List Byte) : State :=
  { afterCall s with
    pc := s.pc + BitVec.ofNat 16 (operand.length + 1)
    busHistory := (fetchEvents s.pc (op :: operand)).reverse ++ s.busHistory
    traceLog := report s op ++ s.traceLog }

/-! Bus history and memory. -/

/-- What a sequence of bus events, oldest first, makes of memory; none where a read of memory did not give the byte memory held
at that point (R84, R85). A device's answer is its own. -/
def replay (map : List Region) : List BusEvent → Memory → Option Memory
  | [], m => some m
  | .read a v :: rest, m =>
    if kindAt map a.toNat = .device ∨ m.read a.toNat = v then replay map rest m else none
  | .write a v :: rest, m => replay map rest (if kindAt map a.toNat = .ram then m.write a.toNat v else m)

/-- The outcome with `f` applied to the state in it: the next one, or the one the core halts in. -/
def mapState (f : State → State) : StepResult → StepResult
  | .next s => .next (f s)
  | .fault (.unhandledOpcode op pc s) => .fault (.unhandledOpcode op pc (f s))
  | .refused r => .refused r

/-- The state without its trace hook and without what it has reported. -/
def untraced (s : State) : State := { s with traceLog := [], config := { s.config with traceHook := false } }

/-- The state with the stored B set to a given value. -/
def withB (b : Bool) (s : State) : State := { s with flags := { s.flags with b := b } }

/-! What an instruction leaves unchanged. -/

/-- What no instruction writes: the NMI latch, the IRQ line, the configuration, the bus map, the host's hand on the devices, the
phase, the host's schedule, the reports made. -/
def SameOutside (s t : State) : Prop :=
  t.nmiLatch = s.nmiLatch ∧ t.irqLine = s.irqLine ∧ t.config = s.config ∧ t.busMap = s.busMap ∧
    t.devicesTouched = s.devicesTouched ∧ t.phase = s.phase ∧ t.schedule = s.schedule ∧ t.traceLog = s.traceLog ∧
    t.diagLog = s.diagLog

/-- Every byte of memory reads as before. -/
def SameMemory (s t : State) : Prop := ∀ a, t.mem.read a = s.mem.read a

/-- A, X, Y and SP are as before. -/
def SameRegs (s t : State) : Prop := t.a = s.a ∧ t.x = s.x ∧ t.y = s.y ∧ t.sp = s.sp

/-- One byte is stored at `ea`: RAM there holds it, ROM and devices keep what they had, every other byte reads as before. -/
def StoresByte (s t : State) (ea : Word) (v : Byte) : Prop :=
  (kindAt s.busMap ea.toNat = .ram → t.mem.read ea.toNat = v) ∧
    (kindAt s.busMap ea.toNat ≠ .ram → t.mem.read ea.toNat = s.mem.read ea.toNat) ∧
    ∀ a, a ≠ ea.toNat → t.mem.read a = s.mem.read a

/-- What every instruction that only reads its operand keeps and costs (R113, R114): PC, SP, memory, everything outside the
core; its bus accesses are those of reading the operand; its cost is the base and one for a page cross. -/
def ReadFrame (s t : State) (src : Source) (base : Nat) : Prop :=
  t.pc = s.pc ∧ t.sp = s.sp ∧ SameMemory s t ∧ SameOutside s t ∧ t.busHistory = (readSource src s).st.busHistory ∧
    t.cyc = BitVec.ofNat 32 (base + (readSource src s).crossed.toNat)

/-- What every one-byte register instruction keeps and costs: memory, the bus history, PC, everything outside the core; cost 2. -/
def ImpliedFrame (s t : State) : Prop :=
  t.pc = s.pc ∧ SameMemory s t ∧ SameOutside s t ∧ t.busHistory = s.busHistory ∧ t.cyc = 2

/-- The operand of a read-modify-write instruction (R160). -/
def targetValue (tg : Target) (s : State) : Byte :=
  match tg with
  | .acc => s.a
  | .mem a => busValue (resolve a s).ea (resolve a s).st

/-- What a read-modify-write instruction with result `r` does but for its flags (R113, R160): A, or the byte at the effective
address by one read then one write; nothing else; the base cost. -/
def Rewrites (s t : State) (tg : Target) (r : Byte) (base : Nat) : Prop :=
  t.pc = s.pc ∧ t.x = s.x ∧ t.y = s.y ∧ t.sp = s.sp ∧ SameOutside s t ∧ t.cyc = BitVec.ofNat 32 base ∧
    match tg with
    | .acc => t.a = r ∧ SameMemory s t ∧ t.busHistory = s.busHistory
    | .mem a =>
      t.a = s.a ∧ StoresByte s t (resolve a s).ea r ∧
        t.busHistory =
          .write (resolve a s).ea r :: .read (resolve a s).ea (targetValue tg s) :: (resolve a s).st.busHistory

/-- Z and N from a result, the other flags as they were (R11). -/
def flagsZN (r : Byte) (f : Flags) : Flags := { f with z := decide (r = 0), n := decide (r.toNat ≥ 0x80) }

/-- C, Z and N, the other flags as they were. -/
def flagsCZN (c : Bool) (r : Byte) (f : Flags) : Flags := { flagsZN r f with c := c }

/-- The state after the three stack writes of an interrupt entry: PC high, PC low, the packed status with bit 4 = `b4`, in that
order (R245). -/
def stacked (b4 : Bool) (s : State) : State :=
  memWrite (stackAddr (s.sp - 2)) (pack b4 s.flags)
    (memWrite (stackAddr (s.sp - 1)) (loByte s.pc) (memWrite (stackAddr s.sp) (hiByte s.pc) s))

/-- An interrupt entry from the state whose PC is the return address (R245, R250): the three stack writes, PC high, PC low and
the packed status with bit 4 = `b4`, in that order, then the two vector reads; SP down by 3 with wrap; B and I written, the
other flags, A, X, Y and every other byte of memory unchanged; PC from the vector, which in memory is the word that stood
there before. -/
def InterruptEntry (b4 : Bool) (vector : Word) (s t : State) : Prop :=
  let p := pack b4 s.flags
  let u := stacked b4 s
  t.pc = joinBytes (busValue (vector + 1) (afterRead vector u)) (busValue vector u) ∧
    (kindAt s.busMap vector.toNat ≠ .device → kindAt s.busMap (vector + 1).toNat ≠ .device →
      t.pc = joinBytes (s.mem.read (vector + 1).toNat) (s.mem.read vector.toNat)) ∧
    t.sp = s.sp - 3 ∧ t.a = s.a ∧ t.x = s.x ∧ t.y = s.y ∧
    t.flags = { s.flags with b := b4, i := true } ∧
    (kindAt s.busMap (stackAddr s.sp).toNat = .ram → t.mem.read (stackAddr s.sp).toNat = hiByte s.pc) ∧
    (kindAt s.busMap (stackAddr (s.sp - 1)).toNat = .ram → t.mem.read (stackAddr (s.sp - 1)).toNat = loByte s.pc) ∧
    (kindAt s.busMap (stackAddr (s.sp - 2)).toNat = .ram → t.mem.read (stackAddr (s.sp - 2)).toNat = p) ∧
    (∀ a, (a = (stackAddr s.sp).toNat ∨ a = (stackAddr (s.sp - 1)).toNat ∨ a = (stackAddr (s.sp - 2)).toNat →
        kindAt s.busMap a ≠ .ram) → t.mem.read a = s.mem.read a) ∧
    t.busHistory =
      .read (vector + 1) (busValue (vector + 1) (afterRead vector u)) :: .read vector (busValue vector u) ::
        .write (stackAddr (s.sp - 2)) p :: .write (stackAddr (s.sp - 1)) (loByte s.pc) ::
        .write (stackAddr s.sp) (hiByte s.pc) :: s.busHistory

/-! The forms of each instruction, as its own rule lists them: the constructor, its operand, its base cost. -/

/-- Instructions that only read their operand (R140-R142, R151-R155, R181-R184). -/
inductive ReadForm : Mnemonic → Instr → Source → Nat → Prop where
  | ldaImm (v : Byte) : ReadForm .lda (.ldaImm v) (.imm v) 2
  | ldaZp (z : Byte) : ReadForm .lda (.ldaZp z) (.mem (.zp z)) 3
  | ldaZpx (z : Byte) : ReadForm .lda (.ldaZpx z) (.mem (.zpx z)) 4
  | ldaAbs (w : Word) : ReadForm .lda (.ldaAbs w) (.mem (.abs w)) 4
  | ldaAbsx (w : Word) : ReadForm .lda (.ldaAbsx w) (.mem (.absx w)) 4
  | ldaAbsy (w : Word) : ReadForm .lda (.ldaAbsy w) (.mem (.absy w)) 4
  | ldaIzx (z : Byte) : ReadForm .lda (.ldaIzx z) (.mem (.izx z)) 6
  | ldaIzy (z : Byte) : ReadForm .lda (.ldaIzy z) (.mem (.izy z)) 5
  | ldxImm (v : Byte) : ReadForm .ldx (.ldxImm v) (.imm v) 2
  | ldxZp (z : Byte) : ReadForm .ldx (.ldxZp z) (.mem (.zp z)) 3
  | ldxZpy (z : Byte) : ReadForm .ldx (.ldxZpy z) (.mem (.zpy z)) 4
  | ldxAbs (w : Word) : ReadForm .ldx (.ldxAbs w) (.mem (.abs w)) 4
  | ldxAbsy (w : Word) : ReadForm .ldx (.ldxAbsy w) (.mem (.absy w)) 4
  | ldyImm (v : Byte) : ReadForm .ldy (.ldyImm v) (.imm v) 2
  | ldyZp (z : Byte) : ReadForm .ldy (.ldyZp z) (.mem (.zp z)) 3
  | ldyZpx (z : Byte) : ReadForm .ldy (.ldyZpx z) (.mem (.zpx z)) 4
  | ldyAbs (w : Word) : ReadForm .ldy (.ldyAbs w) (.mem (.abs w)) 4
  | ldyAbsx (w : Word) : ReadForm .ldy (.ldyAbsx w) (.mem (.absx w)) 4
  | adcImm (v : Byte) : ReadForm .adc (.adcImm v) (.imm v) 2
  | adcZp (z : Byte) : ReadForm .adc (.adcZp z) (.mem (.zp z)) 3
  | adcZpx (z : Byte) : ReadForm .adc (.adcZpx z) (.mem (.zpx z)) 4
  | adcAbs (w : Word) : ReadForm .adc (.adcAbs w) (.mem (.abs w)) 4
  | adcAbsx (w : Word) : ReadForm .adc (.adcAbsx w) (.mem (.absx w)) 4
  | adcAbsy (w : Word) : ReadForm .adc (.adcAbsy w) (.mem (.absy w)) 4
  | adcIzx (z : Byte) : ReadForm .adc (.adcIzx z) (.mem (.izx z)) 6
  | adcIzy (z : Byte) : ReadForm .adc (.adcIzy z) (.mem (.izy z)) 5
  | sbcImm (v : Byte) : ReadForm .sbc (.sbcImm v) (.imm v) 2
  | sbcZp (z : Byte) : ReadForm .sbc (.sbcZp z) (.mem (.zp z)) 3
  | sbcZpx (z : Byte) : ReadForm .sbc (.sbcZpx z) (.mem (.zpx z)) 4
  | sbcAbs (w : Word) : ReadForm .sbc (.sbcAbs w) (.mem (.abs w)) 4
  | sbcAbsx (w : Word) : ReadForm .sbc (.sbcAbsx w) (.mem (.absx w)) 4
  | sbcAbsy (w : Word) : ReadForm .sbc (.sbcAbsy w) (.mem (.absy w)) 4
  | sbcIzx (z : Byte) : ReadForm .sbc (.sbcIzx z) (.mem (.izx z)) 6
  | sbcIzy (z : Byte) : ReadForm .sbc (.sbcIzy z) (.mem (.izy z)) 5
  | andImm (v : Byte) : ReadForm .and (.andImm v) (.imm v) 2
  | andZp (z : Byte) : ReadForm .and (.andZp z) (.mem (.zp z)) 3
  | andZpx (z : Byte) : ReadForm .and (.andZpx z) (.mem (.zpx z)) 4
  | andAbs (w : Word) : ReadForm .and (.andAbs w) (.mem (.abs w)) 4
  | andAbsx (w : Word) : ReadForm .and (.andAbsx w) (.mem (.absx w)) 4
  | andAbsy (w : Word) : ReadForm .and (.andAbsy w) (.mem (.absy w)) 4
  | andIzx (z : Byte) : ReadForm .and (.andIzx z) (.mem (.izx z)) 6
  | andIzy (z : Byte) : ReadForm .and (.andIzy z) (.mem (.izy z)) 5
  | oraImm (v : Byte) : ReadForm .ora (.oraImm v) (.imm v) 2
  | oraZp (z : Byte) : ReadForm .ora (.oraZp z) (.mem (.zp z)) 3
  | oraZpx (z : Byte) : ReadForm .ora (.oraZpx z) (.mem (.zpx z)) 4
  | oraAbs (w : Word) : ReadForm .ora (.oraAbs w) (.mem (.abs w)) 4
  | oraAbsx (w : Word) : ReadForm .ora (.oraAbsx w) (.mem (.absx w)) 4
  | oraAbsy (w : Word) : ReadForm .ora (.oraAbsy w) (.mem (.absy w)) 4
  | oraIzx (z : Byte) : ReadForm .ora (.oraIzx z) (.mem (.izx z)) 6
  | oraIzy (z : Byte) : ReadForm .ora (.oraIzy z) (.mem (.izy z)) 5
  | eorImm (v : Byte) : ReadForm .eor (.eorImm v) (.imm v) 2
  | eorZp (z : Byte) : ReadForm .eor (.eorZp z) (.mem (.zp z)) 3
  | eorZpx (z : Byte) : ReadForm .eor (.eorZpx z) (.mem (.zpx z)) 4
  | eorAbs (w : Word) : ReadForm .eor (.eorAbs w) (.mem (.abs w)) 4
  | eorAbsx (w : Word) : ReadForm .eor (.eorAbsx w) (.mem (.absx w)) 4
  | eorAbsy (w : Word) : ReadForm .eor (.eorAbsy w) (.mem (.absy w)) 4
  | eorIzx (z : Byte) : ReadForm .eor (.eorIzx z) (.mem (.izx z)) 6
  | eorIzy (z : Byte) : ReadForm .eor (.eorIzy z) (.mem (.izy z)) 5
  | cmpImm (v : Byte) : ReadForm .cmp (.cmpImm v) (.imm v) 2
  | cmpZp (z : Byte) : ReadForm .cmp (.cmpZp z) (.mem (.zp z)) 3
  | cmpZpx (z : Byte) : ReadForm .cmp (.cmpZpx z) (.mem (.zpx z)) 4
  | cmpAbs (w : Word) : ReadForm .cmp (.cmpAbs w) (.mem (.abs w)) 4
  | cmpAbsx (w : Word) : ReadForm .cmp (.cmpAbsx w) (.mem (.absx w)) 4
  | cmpAbsy (w : Word) : ReadForm .cmp (.cmpAbsy w) (.mem (.absy w)) 4
  | cmpIzx (z : Byte) : ReadForm .cmp (.cmpIzx z) (.mem (.izx z)) 6
  | cmpIzy (z : Byte) : ReadForm .cmp (.cmpIzy z) (.mem (.izy z)) 5
  | cpxImm (v : Byte) : ReadForm .cpx (.cpxImm v) (.imm v) 2
  | cpxZp (z : Byte) : ReadForm .cpx (.cpxZp z) (.mem (.zp z)) 3
  | cpxAbs (w : Word) : ReadForm .cpx (.cpxAbs w) (.mem (.abs w)) 4
  | cpyImm (v : Byte) : ReadForm .cpy (.cpyImm v) (.imm v) 2
  | cpyZp (z : Byte) : ReadForm .cpy (.cpyZp z) (.mem (.zp z)) 3
  | cpyAbs (w : Word) : ReadForm .cpy (.cpyAbs w) (.mem (.abs w)) 4
  | bitZp (z : Byte) : ReadForm .bit (.bitZp z) (.mem (.zp z)) 3
  | bitAbs (w : Word) : ReadForm .bit (.bitAbs w) (.mem (.abs w)) 4

/-- Stores (R143-R145). -/
inductive StoreForm : Mnemonic → Instr → Addr → Nat → Prop where
  | staZp (z : Byte) : StoreForm .sta (.staZp z) (.zp z) 3
  | staZpx (z : Byte) : StoreForm .sta (.staZpx z) (.zpx z) 4
  | staAbs (w : Word) : StoreForm .sta (.staAbs w) (.abs w) 4
  | staAbsx (w : Word) : StoreForm .sta (.staAbsx w) (.absx w) 5
  | staAbsy (w : Word) : StoreForm .sta (.staAbsy w) (.absy w) 5
  | staIzx (z : Byte) : StoreForm .sta (.staIzx z) (.izx z) 6
  | staIzy (z : Byte) : StoreForm .sta (.staIzy z) (.izy z) 6
  | stxZp (z : Byte) : StoreForm .stx (.stxZp z) (.zp z) 3
  | stxZpy (z : Byte) : StoreForm .stx (.stxZpy z) (.zpy z) 4
  | stxAbs (w : Word) : StoreForm .stx (.stxAbs w) (.abs w) 4
  | styZp (z : Byte) : StoreForm .sty (.styZp z) (.zp z) 3
  | styZpx (z : Byte) : StoreForm .sty (.styZpx z) (.zpx z) 4
  | styAbs (w : Word) : StoreForm .sty (.styAbs w) (.abs w) 4

/-- Read-modify-write instructions (R161-R164, R170, R171). -/
inductive ModifyForm : Mnemonic → Instr → Target → Nat → Prop where
  | aslAcc : ModifyForm .asl .aslAcc .acc 2
  | aslZp (z : Byte) : ModifyForm .asl (.aslZp z) (.mem (.zp z)) 5
  | aslZpx (z : Byte) : ModifyForm .asl (.aslZpx z) (.mem (.zpx z)) 6
  | aslAbs (w : Word) : ModifyForm .asl (.aslAbs w) (.mem (.abs w)) 6
  | aslAbsx (w : Word) : ModifyForm .asl (.aslAbsx w) (.mem (.absx w)) 7
  | lsrAcc : ModifyForm .lsr .lsrAcc .acc 2
  | lsrZp (z : Byte) : ModifyForm .lsr (.lsrZp z) (.mem (.zp z)) 5
  | lsrZpx (z : Byte) : ModifyForm .lsr (.lsrZpx z) (.mem (.zpx z)) 6
  | lsrAbs (w : Word) : ModifyForm .lsr (.lsrAbs w) (.mem (.abs w)) 6
  | lsrAbsx (w : Word) : ModifyForm .lsr (.lsrAbsx w) (.mem (.absx w)) 7
  | rolAcc : ModifyForm .rol .rolAcc .acc 2
  | rolZp (z : Byte) : ModifyForm .rol (.rolZp z) (.mem (.zp z)) 5
  | rolZpx (z : Byte) : ModifyForm .rol (.rolZpx z) (.mem (.zpx z)) 6
  | rolAbs (w : Word) : ModifyForm .rol (.rolAbs w) (.mem (.abs w)) 6
  | rolAbsx (w : Word) : ModifyForm .rol (.rolAbsx w) (.mem (.absx w)) 7
  | rorAcc : ModifyForm .ror .rorAcc .acc 2
  | rorZp (z : Byte) : ModifyForm .ror (.rorZp z) (.mem (.zp z)) 5
  | rorZpx (z : Byte) : ModifyForm .ror (.rorZpx z) (.mem (.zpx z)) 6
  | rorAbs (w : Word) : ModifyForm .ror (.rorAbs w) (.mem (.abs w)) 6
  | rorAbsx (w : Word) : ModifyForm .ror (.rorAbsx w) (.mem (.absx w)) 7
  | incZp (z : Byte) : ModifyForm .inc (.incZp z) (.mem (.zp z)) 5
  | incZpx (z : Byte) : ModifyForm .inc (.incZpx z) (.mem (.zpx z)) 6
  | incAbs (w : Word) : ModifyForm .inc (.incAbs w) (.mem (.abs w)) 6
  | incAbsx (w : Word) : ModifyForm .inc (.incAbsx w) (.mem (.absx w)) 7
  | decZp (z : Byte) : ModifyForm .dec (.decZp z) (.mem (.zp z)) 5
  | decZpx (z : Byte) : ModifyForm .dec (.decZpx z) (.mem (.zpx z)) 6
  | decAbs (w : Word) : ModifyForm .dec (.decAbs w) (.mem (.abs w)) 6
  | decAbsx (w : Word) : ModifyForm .dec (.decAbsx w) (.mem (.absx w)) 7

/-- Branches with their condition (R191-R198). -/
inductive BranchForm : Instr → Byte → (Flags → Bool) → Prop where
  | bpl (d : Byte) : BranchForm (.bpl d) d (fun f => !f.n)
  | bmi (d : Byte) : BranchForm (.bmi d) d (fun f => f.n)
  | bvc (d : Byte) : BranchForm (.bvc d) d (fun f => !f.v)
  | bvs (d : Byte) : BranchForm (.bvs d) d (fun f => f.v)
  | bcc (d : Byte) : BranchForm (.bcc d) d (fun f => !f.c)
  | bcs (d : Byte) : BranchForm (.bcs d) d (fun f => f.c)
  | bne (d : Byte) : BranchForm (.bne d) d (fun f => !f.z)
  | beq (d : Byte) : BranchForm (.beq d) d (fun f => f.z)

/-! What an instruction costs beyond its base. -/

/-- Whether a branch is taken: the flag its mnemonic tests (R191-R198). -/
def branchTaken (m : Mnemonic) (f : Flags) : Bool :=
  match m with
  | .bpl => !f.n
  | .bmi => f.n
  | .bvc => !f.v
  | .bvs => f.v
  | .bcc => !f.c
  | .bcs => f.c
  | .bne => !f.z
  | .beq => f.z
  | _ => false

/-- The cycles beyond the base (R114, R190): for an opcode whose row takes the page-cross penalty, 1 if its operand's address
crosses a page; for a branch 0, 1 or 2 as it is not taken, taken within the page, taken into another page; else none. -/
def extraCycles (i : Instr) (pageCross : Bool) (s : State) : Nat :=
  match i.operand with
  | .mem a => if pageCross then (readSource (.mem a) s).crossed.toNat else 0
  | .rel d => if branchTaken i.mnemonic s.flags then 1 + (resolveRel d s).crossed.toNat else 0
  | _ => 0

/-- The 105 opcode bytes with no table entry (R117). -/
def unassignedBytes : List Byte :=
  [0x02, 0x03, 0x04, 0x07, 0x0B, 0x0C, 0x0F, 0x12, 0x13, 0x14, 0x17, 0x1A, 0x1B, 0x1C, 0x1F, 0x22, 0x23, 0x27, 0x2B, 0x2F,
    0x32, 0x33, 0x34, 0x37, 0x3A, 0x3B, 0x3C, 0x3F] ++
  [0x42, 0x43, 0x44, 0x47, 0x4B, 0x4F, 0x52, 0x53, 0x54, 0x57, 0x5A, 0x5B, 0x5C, 0x5F, 0x62, 0x63, 0x64, 0x67, 0x6B, 0x6F,
    0x72, 0x73, 0x74, 0x77, 0x7A, 0x7B, 0x7C, 0x7F] ++
  [0x80, 0x82, 0x83, 0x87, 0x89, 0x8B, 0x8F, 0x92, 0x93, 0x97, 0x9B, 0x9C, 0x9E, 0x9F, 0xA3, 0xA7, 0xAB, 0xAF, 0xB2, 0xB3,
    0xB7, 0xBB, 0xBF] ++
  [0xC2, 0xC3, 0xC7, 0xCB, 0xCF, 0xD2, 0xD3, 0xD4, 0xD7, 0xDA, 0xDB, 0xDC, 0xDF, 0xE2, 0xE3, 0xE7, 0xEB, 0xEF, 0xF2, 0xF3,
    0xF4, 0xF7, 0xFA, 0xFB, 0xFC, 0xFF]

end Sys2Proof.Safety
end

