-- ==== Sys2Proof/Certificates/Slice0/Obligations.lean ====
section
/-! DEFINITION. The statements for the provers, from the numbered rules of spec/. A clause that rests on a decision the spec
marks as its own (92_eei_decisions.md) or on a choice of the model (notes/assumptions) says so in its docstring. -/

open Sys2Proof Sys2Proof.Machine Sys2Proof.Safety

/-! Encoding. -/

/-- Decoding what the encoder writes, with any bytes after it, gives the instruction and those bytes back, for every well-formed
instruction and operand (R101, R102, R120). The padding byte the encoder writes after BRK is the model's choice (log 8). -/
def Obligations.DecodeInvertsEncode : Prop :=
  ∀ (i : Instr) (rest : List Byte), i.wellFormed = true → decode (encode i ++ rest) = .ok (i, rest)

/-- What decodes is what the encoder writes: the bytes taken are the instruction's opcode and operand bytes, and BRK's padding
byte of any value where there is one (R101, R120). That BRK decodes with or without a padding byte is the model's choice (log
8). -/
def Obligations.EncodeInvertsDecode : Prop :=
  ∀ (i : Instr) (bytes rest : List Byte), decode bytes = .ok (i, rest) →
    ∃ after, bytes = i.fetchedBytes ++ after ∧ rest = after.drop i.padding

/-- The bytes without a table entry are exactly the 105 the spec lists, and each is refused by name whatever follows it (R117,
R116; the list is the spec's decision D1). -/
def Obligations.UnassignedBytesAreRefused : Prop :=
  unassignedBytes.length = 105 ∧
    ∀ (op : Byte) (rest : List Byte), decode (op :: rest) = .error (.unassigned op) ↔ op ∈ unassignedBytes

/-- A sanity check of words written out from the spec's encodings (section 5 of 30_encoding.md and the rules' examples). -/
def Obligations.SpecWordsDecode : Prop :=
  decode [0xC9, 0xE7] = .ok (.cmpImm 0xE7, []) ∧ decode [0xBC, 0xF0, 0x12] = .ok (.ldyAbsx 0x12F0, []) ∧
    decode [0x6C, 0xFF, 0x02] = .ok (.jmpInd 0x02FF, []) ∧ decode [0x96, 0xFF] = .ok (.stxZpy 0xFF, []) ∧
    decode [0x00, 0xEA, 0x40] = .ok (.brk, [0x40]) ∧ decode [0xD0, 0xFB] = .ok (.bne 0xFB, [])

/-- The length of an instruction is a function of its opcode byte's mode: 1 for IMP and ACC, 2 for BRK and the one-byte
operands, 3 for ABS, ABSX, ABSY, IND (R102). -/
def Obligations.LengthFollowsMode : Prop :=
  ∀ i : Instr, (encode i).length = i.length ∧
    i.length =
      match i.operand.mode with
      | .imp => if i = .brk then 2 else 1
      | .acc => 1
      | .imm | .zp | .zpx | .zpy | .rel | .izx | .izy => 2
      | .abs | .absx | .absy | .ind => 3

/-! Addressing modes. -/

/-- `z <- Fetch8()`: the byte at PC, one read, PC past it. Zero page: `EA <- z` (the address 0x00zz); zero page indexed: `(z +
index) & 0xFF`, never into page 1. No page cross, no access (R104, R105). The fetch is R100's; that PC wraps from 0xFFFF to
0x0000 is the spec's decision D4 (log 12). -/
def Obligations.ZeroPageWraps : Prop :=
  ∀ (z : Byte) (s : State),
    ((fetch8 s).1 = busValue s.pc s ∧ (fetch8 s).2 = { afterRead s.pc s with pc := s.pc + 1 }) ∧
      ((resolve (.zp z) s).ea.toNat = z.toNat ∧ (resolve (.zp z) s).crossed = false ∧ (resolve (.zp z) s).st = s) ∧
      ((resolve (.zpx z) s).ea.toNat = (z.toNat + s.x.toNat) % 256 ∧ (resolve (.zpx z) s).crossed = false ∧
        (resolve (.zpx z) s).st = s) ∧
      (resolve (.zpy z) s).ea.toNat = (z.toNat + s.y.toNat) % 256 ∧ (resolve (.zpy z) s).crossed = false ∧
      (resolve (.zpy z) s).st = s

/-- Absolute: the operand word is the address, with no cross and no access (R106). Absolute indexed: the sum modulo 65536, crossed exactly when base and address lie in different 256-byte pages (R107; the
wrap and its counting as a cross are the spec's decisions D4 and D27). -/
def Obligations.AbsoluteIndexedAddress : Prop :=
  ∀ (w : Word) (s : State),
    ((resolve (.abs w) s).ea = w ∧ (resolve (.abs w) s).crossed = false ∧ (resolve (.abs w) s).st = s) ∧
      (resolve (.absx w) s).ea.toNat = (w.toNat + s.x.toNat) % 65536 ∧
      ((resolve (.absx w) s).crossed = true ↔ (w.toNat + s.x.toNat) % 65536 / 256 ≠ w.toNat / 256) ∧
      (resolve (.absx w) s).st = s ∧
      (resolve (.absy w) s).ea.toNat = (w.toNat + s.y.toNat) % 65536 ∧
      ((resolve (.absy w) s).crossed = true ↔ (w.toNat + s.y.toNat) % 65536 / 256 ≠ w.toNat / 256) ∧
      (resolve (.absy w) s).st = s

/-- `(zp,X)`: `z <- Fetch8()`, the byte at PC, PC past it; the pointer `p = (z + X) & 0xFF`; the low byte read at p and the high
byte at `(p + 1) & 0xFF`, in that order; not crossed (R108). The fetch is R100's, and the wrap of PC in it the spec's decision D4
(log 12); the order of the two pointer reads, and that nothing else is read, are its decision D11 (R72, log 16). -/
def Obligations.IndexedIndirectAddress : Prop :=
  ∀ (z : Byte) (s : State) (lo hi : Word), lo.toNat = (z.toNat + s.x.toNat) % 256 → hi.toNat = (lo.toNat + 1) % 256 →
    ((fetch8 s).1 = busValue s.pc s ∧ (fetch8 s).2 = { afterRead s.pc s with pc := s.pc + 1 }) ∧
      (resolve (.izx z) s).ea.toNat = (busValue lo s).toNat + 256 * (busValue hi (afterRead lo s)).toNat ∧
      (resolve (.izx z) s).st = afterRead hi (afterRead lo s) ∧ (resolve (.izx z) s).crossed = false

/-- `(zp),Y`: the base read at z and `(z + 1) & 0xFF`, in that order, then base + Y modulo 65536, crossed when the pages differ
(R109; the wrap and its counting as a cross are the spec's decisions D4 and D27, log 12; the order of the two pointer reads is
its decision D11, R72, log 16). -/
def Obligations.IndirectIndexedAddress : Prop :=
  ∀ (z : Byte) (s : State) (lo hi : Word) (base : Nat), lo.toNat = z.toNat → hi.toNat = (z.toNat + 1) % 256 →
    base = (busValue lo s).toNat + 256 * (busValue hi (afterRead lo s)).toNat →
    (resolve (.izy z) s).ea.toNat = (base + s.y.toNat) % 65536 ∧
      (resolve (.izy z) s).st = afterRead hi (afterRead lo s) ∧
      ((resolve (.izy z) s).crossed = true ↔ (base + s.y.toNat) % 65536 / 256 ≠ base / 256)

/-- JMP indirect: `ptr <- Fetch16()`, the low byte at PC and the high byte after it, PC past both; the target's high byte is
fetched within the pointer's page: with the pointer at a page's last byte, from that page's first byte; the value is the jump's
target (R200), and no data is read there (R110). The wraps of PC + 1 and PC + 2 are the spec's decision D4 (log 12); the order
of the two reads of each word is its decision D11 (R72, log 16). -/
def Obligations.IndirectStaysInPage : Prop :=
  ∀ (p hi : Word) (s : State), hi.toNat = p.toNat / 256 * 256 + (p.toNat + 1) % 256 →
    ((fetch16 s).1.toNat = (busValue s.pc s).toNat + 256 * (busValue (s.pc + 1) (afterRead s.pc s)).toNat ∧
        (fetch16 s).2 = { afterRead (s.pc + 1) (afterRead s.pc s) with pc := s.pc + 2 }) ∧
      (resolveInd p s).ea.toNat = (busValue p s).toNat + 256 * (busValue hi (afterRead p s)).toNat ∧
      (resolveInd p s).st = afterRead hi (afterRead p s) ∧ (resolveInd p s).crossed = false ∧
      ∃ t, exec (.jmpInd p) s = .next t ∧ t.pc = (resolveInd p s).ea ∧ t.busHistory = (resolveInd p s).st.busHistory

/-- Relative: the signed displacement added to the PC past the branch, modulo 65536, crossed when the pages differ (R111; the
wrap is D4). -/
def Obligations.RelativeTarget : Prop :=
  ∀ (d : Byte) (s : State),
    ((resolveRel d s).ea.toNat : Int) = ((s.pc.toNat : Int) + d.toInt) % 65536 ∧ (resolveRel d s).st = s ∧
      ((resolveRel d s).crossed = true ↔ (resolveRel d s).ea.toNat / 256 ≠ s.pc.toNat / 256)

/-! Loads and stores. -/

/-- LDA, LDX, LDY in every mode: the register takes M, Z and N follow it, the other flags and registers and all of memory are
unchanged; cost base + crossed (R140, R141, R142; costs D2, D3). -/
def Obligations.LoadsTakeTheOperand : Prop :=
  (∀ i src base s, ReadForm .lda i src base → ∃ t, exec i s = .next t ∧ t.a = (readSource src s).value ∧ t.x = s.x ∧ t.y = s.y ∧
      t.flags = flagsZN (readSource src s).value s.flags ∧ ReadFrame s t src base) ∧
    (∀ i src base s, ReadForm .ldx i src base → ∃ t, exec i s = .next t ∧ t.a = s.a ∧ t.x = (readSource src s).value ∧ t.y = s.y ∧
      t.flags = flagsZN (readSource src s).value s.flags ∧ ReadFrame s t src base) ∧
    (∀ i src base s, ReadForm .ldy i src base → ∃ t, exec i s = .next t ∧ t.a = s.a ∧ t.x = s.x ∧ t.y = (readSource src s).value ∧
      t.flags = flagsZN (readSource src s).value s.flags ∧ ReadFrame s t src base)

/-- The operand of a read: an immediate value with no access and no page cross, or exactly one read of the effective address
after the resolver's own, with the resolver's page-cross bit (R103, R113, R114; that there is no dummy read is D11, log 16). -/
def Obligations.OperandIsReadOnce : Prop :=
  ∀ (s : State), (∀ v, (readSource (.imm v) s).value = v ∧ (readSource (.imm v) s).crossed = false ∧ (readSource (.imm v) s).st = s) ∧
    ∀ a, (readSource (.mem a) s).value = busValue (resolve a s).ea (resolve a s).st ∧
      (readSource (.mem a) s).crossed = (resolve a s).crossed ∧
      (readSource (.mem a) s).st = afterRead (resolve a s).ea (resolve a s).st ∧
      (readSource (.mem a) s).st.busHistory =
        .read (resolve a s).ea (readSource (.mem a) s).value :: (resolve a s).st.busHistory

/-- A register a store writes to memory (R143-R145). -/
def Sys2Proof.Safety.storedValue (m : Mnemonic) (s : State) : Byte :=
  match m with
  | .sta => s.a
  | .stx => s.x
  | _ => s.y

/-- STA, STX, STY in every mode: one write of the register at the effective address and no read of it; every register, every
flag and every other byte of memory is unchanged; no page-cross cost (R143, R144, R145; costs D2; the missing read D11). Memory
in canonical form is the invariant `Inv`. That ROM and devices keep their bytes under a write is the model's choice (log 3). -/
def Obligations.StoresWriteOneByte : Prop :=
  ∀ m i a base s, StoreForm m i a base → s.mem.wf = true →
    ∃ t, exec i s = .next t ∧ StoresByte s t (resolve a s).ea (storedValue m s) ∧ SameRegs s t ∧ t.flags = s.flags ∧ t.pc = s.pc ∧
      SameOutside s t ∧ t.busHistory = .write (resolve a s).ea (storedValue m s) :: (resolve a s).st.busHistory ∧
      t.cyc = BitVec.ofNat 32 base

/-! Arithmetic and logic. -/

/-- ADC in every mode: with s = A + M + C on integers, A takes s mod 256, C the ninth bit, V is set exactly when the signed sum
leaves −128..127, Z and N follow A; I, D, B are unchanged (R151, whose overflow formula is general knowledge; costs D2, D3). -/
def Obligations.AdcAddsWithCarry : Prop :=
  ∀ i src base s, ReadForm .adc i src base → ∃ t, exec i s = .next t ∧
    let m := (readSource src s).value
    let sum := s.a.toNat + m.toNat + s.flags.c.toNat
    let signed := s.a.toInt + m.toInt + (s.flags.c.toNat : Int)
    t.a = BitVec.ofNat 8 sum ∧ t.x = s.x ∧ t.y = s.y ∧
      t.flags = { flagsCZN (decide (sum > 255)) t.a s.flags with v := decide (signed < -128 ∨ 127 < signed) } ∧
      ReadFrame s t src base

/-- SBC in every mode: with d = A − M − (1 − C) on integers, A takes d mod 256, C is the absence of a borrow, V is set exactly
when the signed difference leaves −128..127, Z and N follow A; I, D, B are unchanged (R152; formula general knowledge; costs D2,
D3). -/
def Obligations.SbcSubtractsWithBorrow : Prop :=
  ∀ i src base s, ReadForm .sbc i src base → ∃ t, exec i s = .next t ∧
    let m := (readSource src s).value
    let diff := (s.a.toNat : Int) - m.toNat - (1 - (s.flags.c.toNat : Int))
    let signed := s.a.toInt - m.toInt - (1 - (s.flags.c.toNat : Int))
    t.a = BitVec.ofInt 8 diff ∧ t.x = s.x ∧ t.y = s.y ∧
      t.flags = { flagsCZN (decide (diff ≥ 0)) t.a s.flags with v := decide (signed < -128 ∨ 127 < signed) } ∧
      ReadFrame s t src base

/-- "The whole instruction equals ADC (rule R151) with operand ~M": result and all flags (R152, a derivation of the spec). -/
def Obligations.SbcIsAdcOfComplement : Prop :=
  ∀ (a m : Byte) (f : Flags), sbcResult a m f.c = adcResult a (~~~m) f.c ∧ sbcFlags a m f = adcFlags a (~~~m) f

/-- SBC undoes ADC when its carry-in is the complement of the ADC's (90_conflicts.md C2, 95_test_vectors.md L1.1): run on the
instructions in every mode of both, with the same operand value. -/
def Obligations.SbcUndoesAdc : Prop :=
  ∀ i src base j src' base' s t, ReadForm .adc i src base → ReadForm .sbc j src' base' → exec i s = .next t →
    let u := t.setFlags { t.flags with c := !s.flags.c }
    (readSource src' u).value = (readSource src s).value → ∃ w, exec j u = .next w ∧ w.a = s.a

/-- "ADC and SBC compute the same result whatever D is": the two runs differ in D alone (R150, R45). -/
def Obligations.DecimalFlagIsNeverConsulted : Prop :=
  ∀ m i src base s d, ReadForm m i src base →
    exec i (s.setFlags { s.flags with d := d }) =
      mapState (fun t => t.setFlags { t.flags with d := d }) (exec i s)

/-- AND, ORA, EOR in every mode: the bitwise result in A, Z and N from it, the other flags unchanged (R153, R154, R155; costs
D2, D3). -/
def Obligations.LogicIsBitwise : Prop :=
  (∀ i src base s, ReadForm .and i src base → ∃ t, exec i s = .next t ∧
      (∀ k, t.a.getLsbD k = (s.a.getLsbD k && (readSource src s).value.getLsbD k)) ∧ t.x = s.x ∧ t.y = s.y ∧
      t.flags = flagsZN t.a s.flags ∧ ReadFrame s t src base) ∧
    (∀ i src base s, ReadForm .ora i src base → ∃ t, exec i s = .next t ∧
      (∀ k, t.a.getLsbD k = (s.a.getLsbD k || (readSource src s).value.getLsbD k)) ∧ t.x = s.x ∧ t.y = s.y ∧
      t.flags = flagsZN t.a s.flags ∧ ReadFrame s t src base) ∧
    (∀ i src base s, ReadForm .eor i src base → ∃ t, exec i s = .next t ∧
      (∀ k, t.a.getLsbD k = (s.a.getLsbD k != (readSource src s).value.getLsbD k)) ∧ t.x = s.x ∧ t.y = s.y ∧
      t.flags = flagsZN t.a s.flags ∧ ReadFrame s t src base)

/-- The register a compare reads (R181-R183). -/
def Sys2Proof.Safety.comparedRegister (m : Mnemonic) (s : State) : Byte :=
  match m with
  | .cpx => s.x
  | .cpy => s.y
  | _ => s.a

/-- CMP, CPX, CPY in every mode: C is the unsigned r ≥ M, Z is r = M, N is bit 7 of the difference modulo 256; no register, no
memory, no other flag changes (R180-R183; unsigned by the spec's decision D26; costs D2, D3). -/
def Obligations.ComparesAreUnsigned : Prop :=
  ∀ mn i src base s, mn = .cmp ∨ mn = .cpx ∨ mn = .cpy → ReadForm mn i src base → ∃ t, exec i s = .next t ∧
    let r := (comparedRegister mn s).toNat
    let m := (readSource src s).value.toNat
    t.flags = { s.flags with c := decide (m ≤ r), z := decide (r = m), n := decide ((r + 256 - m) % 256 ≥ 128) } ∧
      t.a = s.a ∧ t.x = s.x ∧ t.y = s.y ∧ ReadFrame s t src base

/-- BIT: Z from M & A, N and V from bits 7 and 6 of M whatever A is; A and memory unchanged (R184; costs D2). -/
def Obligations.BitTestsTheOperand : Prop :=
  ∀ i src base s, ReadForm .bit i src base → ∃ t, exec i s = .next t ∧
    let m := (readSource src s).value
    t.flags = { s.flags with z := decide (m &&& s.a = 0), n := decide (m.toNat ≥ 0x80), v := decide (m.toNat / 64 % 2 = 1) } ∧
      t.a = s.a ∧ t.x = s.x ∧ t.y = s.y ∧ ReadFrame s t src base

/-! Shifts, rotates, increments, decrements. -/

/-- ASL and ROL on A and on memory: the operand doubled modulo 256, the old carry entering bit 0 for ROL; C takes the old bit 7;
V, I, D, B are unchanged (R160, R161, R163; costs D2, D3; one read and one write D11). That ROM and devices keep their bytes
under a write is the model's choice (log 3). -/
def Obligations.LeftShiftsDouble : Prop :=
  ∀ mn i tg base s, mn = .asl ∨ mn = .rol → ModifyForm mn i tg base → s.mem.wf = true → ∃ t, exec i s = .next t ∧
    let m := (targetValue tg s).toNat
    let r := BitVec.ofNat 8 (2 * m + if mn = .rol then s.flags.c.toNat else 0)
    t.flags = flagsCZN (decide (m ≥ 128)) r s.flags ∧ Rewrites s t tg r base

/-- LSR and ROR on A and on memory: the operand halved, the old carry entering bit 7 for ROR and 0 for LSR; C takes the old bit
0; V, I, D, B are unchanged (R160, R162, R164; the fill bit of LSR is general knowledge; costs D2, D3; D11). That ROM and
devices keep their bytes under a write is the model's choice (log 3). -/
def Obligations.RightShiftsHalve : Prop :=
  ∀ mn i tg base s, mn = .lsr ∨ mn = .ror → ModifyForm mn i tg base → s.mem.wf = true → ∃ t, exec i s = .next t ∧
    let m := (targetValue tg s).toNat
    let r := BitVec.ofNat 8 (m / 2 + if mn = .ror then 128 * s.flags.c.toNat else 0)
    t.flags = flagsCZN (decide (m % 2 = 1)) r s.flags ∧ Rewrites s t tg r base

/-- INC and DEC: the byte plus or minus one modulo 256, Z and N from it; C and V are unchanged (R170, R171; costs D2, D3; D11).
That ROM and devices keep their bytes under a write is the model's choice (log 3). -/
def Obligations.IncDecWrapInMemory : Prop :=
  ∀ mn i tg base s, mn = .inc ∨ mn = .dec → ModifyForm mn i tg base → s.mem.wf = true → ∃ t, exec i s = .next t ∧
    let m := (targetValue tg s).toNat
    let r := BitVec.ofNat 8 (m + if mn = .inc then 1 else 255)
    t.flags = flagsZN r s.flags ∧ Rewrites s t tg r base

/-- INX, INY, DEX, DEY: the register plus or minus one modulo 256, Z and N from it; nothing else but cyc (R172-R175; costs D2).
-/
def Obligations.IncDecWrapInRegisters : Prop :=
  ∀ s : State,
    (∃ t, exec .inx s = .next t ∧ t.x.toNat = (s.x.toNat + 1) % 256 ∧ t.a = s.a ∧ t.y = s.y ∧ t.sp = s.sp ∧
      t.flags = flagsZN t.x s.flags ∧ ImpliedFrame s t) ∧
    (∃ t, exec .iny s = .next t ∧ t.y.toNat = (s.y.toNat + 1) % 256 ∧ t.a = s.a ∧ t.x = s.x ∧ t.sp = s.sp ∧
      t.flags = flagsZN t.y s.flags ∧ ImpliedFrame s t) ∧
    (∃ t, exec .dex s = .next t ∧ t.x.toNat = (s.x.toNat + 255) % 256 ∧ t.a = s.a ∧ t.y = s.y ∧ t.sp = s.sp ∧
      t.flags = flagsZN t.x s.flags ∧ ImpliedFrame s t) ∧
    (∃ t, exec .dey s = .next t ∧ t.y.toNat = (s.y.toNat + 255) % 256 ∧ t.a = s.a ∧ t.x = s.x ∧ t.sp = s.sp ∧
      t.flags = flagsZN t.y s.flags ∧ ImpliedFrame s t)

/-! Transfers and flag instructions. -/

/-- TAX, TAY, TXA, TYA, TSX copy a register and set Z and N from it; TXS copies X to SP and sets no flag (R220-R225; costs D2).
-/
def Obligations.TransfersCopyRegisters : Prop :=
  ∀ s : State,
    (∃ t, exec .tax s = .next t ∧ t.x = s.a ∧ t.a = s.a ∧ t.y = s.y ∧ t.sp = s.sp ∧ t.flags = flagsZN s.a s.flags ∧ ImpliedFrame s t) ∧
    (∃ t, exec .tay s = .next t ∧ t.y = s.a ∧ t.a = s.a ∧ t.x = s.x ∧ t.sp = s.sp ∧ t.flags = flagsZN s.a s.flags ∧ ImpliedFrame s t) ∧
    (∃ t, exec .txa s = .next t ∧ t.a = s.x ∧ t.x = s.x ∧ t.y = s.y ∧ t.sp = s.sp ∧ t.flags = flagsZN s.x s.flags ∧ ImpliedFrame s t) ∧
    (∃ t, exec .tya s = .next t ∧ t.a = s.y ∧ t.x = s.x ∧ t.y = s.y ∧ t.sp = s.sp ∧ t.flags = flagsZN s.y s.flags ∧ ImpliedFrame s t) ∧
    (∃ t, exec .tsx s = .next t ∧ t.x = s.sp ∧ t.a = s.a ∧ t.y = s.y ∧ t.sp = s.sp ∧ t.flags = flagsZN s.sp s.flags ∧ ImpliedFrame s t) ∧
    (∃ t, exec .txs s = .next t ∧ t.sp = s.x ∧ t.a = s.a ∧ t.x = s.x ∧ t.y = s.y ∧ t.flags = s.flags ∧ ImpliedFrame s t)

/-- CLC, CLD, CLI, CLV, SEC, SED, SEI write the one flag they name; NOP writes none; every register and all of memory are
unchanged (R226-R233; costs D2). -/
def Obligations.FlagInstructionsWriteOneFlag : Prop :=
  ∀ s : State,
    (∃ t, exec .clc s = .next t ∧ t.flags = { s.flags with c := false } ∧ SameRegs s t ∧ ImpliedFrame s t) ∧
    (∃ t, exec .cld s = .next t ∧ t.flags = { s.flags with d := false } ∧ SameRegs s t ∧ ImpliedFrame s t) ∧
    (∃ t, exec .cli s = .next t ∧ t.flags = { s.flags with i := false } ∧ SameRegs s t ∧ ImpliedFrame s t) ∧
    (∃ t, exec .clv s = .next t ∧ t.flags = { s.flags with v := false } ∧ SameRegs s t ∧ ImpliedFrame s t) ∧
    (∃ t, exec .sec s = .next t ∧ t.flags = { s.flags with c := true } ∧ SameRegs s t ∧ ImpliedFrame s t) ∧
    (∃ t, exec .sed s = .next t ∧ t.flags = { s.flags with d := true } ∧ SameRegs s t ∧ ImpliedFrame s t) ∧
    (∃ t, exec .sei s = .next t ∧ t.flags = { s.flags with i := true } ∧ SameRegs s t ∧ ImpliedFrame s t) ∧
    (∃ t, exec .nop s = .next t ∧ t.flags = s.flags ∧ SameRegs s t ∧ ImpliedFrame s t)

/-! Control flow. -/

/-- The eight branches: taken exactly on their condition, to PC + the signed displacement modulo 65536, cost 3 or 4 by the page
of the target; not taken, PC is kept and the cost is 2; nothing else changes (R190-R198; conditions, costs D1, D2, D4, D27). -/
def Obligations.BranchesFollowTheirFlag : Prop :=
  ∀ i d cond s, BranchForm i d cond → ∃ t, exec i s = .next t ∧ SameRegs s t ∧ t.flags = s.flags ∧ SameMemory s t ∧ SameOutside s t ∧
    t.busHistory = s.busHistory ∧
    (cond s.flags = true → (t.pc.toNat : Int) = ((s.pc.toNat : Int) + d.toInt) % 65536 ∧
      t.cyc = if t.pc.toNat / 256 = s.pc.toNat / 256 then 3 else 4) ∧
    (cond s.flags = false → t.pc = s.pc ∧ t.cyc = 2)

/-- JMP absolute and indirect: PC takes the operand, or the word at the pointer with its high byte fetched in the pointer's
page; nothing else changes but cyc and, for the indirect form, two reads of the history (R200, R110; costs D2). -/
def Obligations.JumpsRedirectThePc : Prop :=
  ∀ (w : Word) (s : State),
    (∃ t, exec (.jmpAbs w) s = .next t ∧ t.pc = w ∧ SameRegs s t ∧ t.flags = s.flags ∧ SameMemory s t ∧ SameOutside s t ∧
      t.busHistory = s.busHistory ∧ t.cyc = 3) ∧
    (∃ t, exec (.jmpInd w) s = .next t ∧ t.pc = (resolveInd w s).ea ∧ SameRegs s t ∧ t.flags = s.flags ∧ SameMemory s t ∧
      SameOutside s t ∧ t.busHistory = (resolveInd w s).st.busHistory ∧ t.cyc = 5)

/-- JSR: the address of its last byte (PC − 1) is pushed high byte first, SP drops by 2 with wrap, PC takes the target; every
other register, the flags and every other byte of memory are unchanged (R201; costs D2; order D11). That ROM and devices keep
their bytes under a write is the model's choice (log 3). -/
def Obligations.JsrPushesTheReturnAddress : Prop :=
  ∀ (w : Word) (s : State), s.mem.wf = true → ∃ t, exec (.jsr w) s = .next t ∧ t.pc = w ∧ t.sp = s.sp - 2 ∧ t.a = s.a ∧ t.x = s.x ∧
    t.y = s.y ∧ t.flags = s.flags ∧ SameOutside s t ∧ t.cyc = 6 ∧
    (kindAt s.busMap (stackAddr s.sp).toNat = .ram → t.mem.read (stackAddr s.sp).toNat = hiByte (s.pc - 1)) ∧
    (kindAt s.busMap (stackAddr (s.sp - 1)).toNat = .ram → t.mem.read (stackAddr (s.sp - 1)).toNat = loByte (s.pc - 1)) ∧
    (∀ a, (a = (stackAddr s.sp).toNat ∨ a = (stackAddr (s.sp - 1)).toNat → kindAt s.busMap a ≠ .ram) →
      t.mem.read a = s.mem.read a) ∧
    t.busHistory = .write (stackAddr (s.sp - 1)) (loByte (s.pc - 1)) :: .write (stackAddr s.sp) (hiByte (s.pc - 1)) :: s.busHistory

/-- RTS: two bytes are pulled, low then high, PC is one past them modulo 65536, SP rises by 2 with wrap; nothing else changes
(R202; the wrap is D4; costs D2). -/
def Obligations.RtsReturnsPastTheCall : Prop :=
  ∀ s : State, ∃ t, exec .rts s = .next t ∧ t.pc = (read16 (stackAddr (s.sp + 1)) (stackAddr (s.sp + 2)) s).1 + 1 ∧ t.sp = s.sp + 2 ∧
    t.a = s.a ∧ t.x = s.x ∧ t.y = s.y ∧ t.flags = s.flags ∧ SameMemory s t ∧ SameOutside s t ∧ t.cyc = 6 ∧
    t.busHistory = (read16 (stackAddr (s.sp + 1)) (stackAddr (s.sp + 2)) s).2.busHistory

/-- "JSR/RTS round trip": JSR, then RTS wherever it stands, leaves PC past the call and SP as it was, on a RAM stack
(95_test_vectors.md L1.3). -/
def Obligations.RtsUndoesJsr : Prop :=
  ∀ (w here : Word) (s t : State), s.mem.wf = true → kindAt s.busMap (stackAddr s.sp).toNat = .ram →
    kindAt s.busMap (stackAddr (s.sp - 1)).toNat = .ram → exec (.jsr w) s = .next t →
    ∃ u, exec .rts (t.setPc here) = .next u ∧ u.pc = s.pc ∧ u.sp = s.sp

/-! The stack. -/

/-- Push writes at 0x0100 | SP, then SP falls by one modulo 256; Pull raises SP by one modulo 256, then reads the byte it
designates (R34, R76-R78; the order and the wrap of the stack are derivations of the spec). That ROM and devices keep their
bytes under a write is the model's choice (log 3). -/
def Obligations.StackStaysInPageOne : Prop :=
  ∀ (v : Byte) (s : State),
    (stackAddr s.sp).toNat = 256 + s.sp.toNat ∧
      (s.mem.wf = true → StoresByte s (push v s) (stackAddr s.sp) v) ∧ (push v s).sp.toNat = (s.sp.toNat + 255) % 256 ∧
      (push v s).busHistory = .write (stackAddr s.sp) v :: s.busHistory ∧
      (pull s).2.sp.toNat = (s.sp.toNat + 1) % 256 ∧ (pull s).1 = busValue (stackAddr (pull s).2.sp) s ∧
      (pull s).2.busHistory = .read (stackAddr (pull s).2.sp) (pull s).1 :: s.busHistory ∧ (pull s).2.mem = s.mem

/-- PHA pushes A; PHP pushes the packed flags with bits 5 and 4 set and does not write the stored B; no flag and no register but
SP changes (R203, R204; PHP's bit 4 is D9; costs D2). That ROM and devices keep their bytes under a write is the model's choice
(log 3). -/
def Obligations.PushInstructionsStoreOneByte : Prop :=
  ∀ s : State, s.mem.wf = true →
    (∃ t, exec .pha s = .next t ∧ StoresByte s t (stackAddr s.sp) s.a ∧ t.sp = s.sp - 1 ∧ t.a = s.a ∧ t.x = s.x ∧ t.y = s.y ∧
      t.pc = s.pc ∧ t.flags = s.flags ∧ SameOutside s t ∧ t.cyc = 3 ∧ t.busHistory = .write (stackAddr s.sp) s.a :: s.busHistory) ∧
    (∃ t, exec .php s = .next t ∧ StoresByte s t (stackAddr s.sp) (pack true s.flags) ∧ t.sp = s.sp - 1 ∧ t.a = s.a ∧ t.x = s.x ∧
      t.y = s.y ∧ t.pc = s.pc ∧ t.flags = s.flags ∧ SameOutside s t ∧ t.cyc = 3 ∧
      t.busHistory = .write (stackAddr s.sp) (pack true s.flags) :: s.busHistory)

/-- PLA pulls A and sets Z and N; PLP pulls the six flags and leaves B; memory is unchanged (R205, R206; costs D2). -/
def Obligations.PullInstructionsLoadOneByte : Prop :=
  ∀ s : State,
    let v := busValue (stackAddr (s.sp + 1)) s
    (∃ t, exec .pla s = .next t ∧ t.a = v ∧ t.sp = s.sp + 1 ∧ t.x = s.x ∧ t.y = s.y ∧ t.pc = s.pc ∧ t.flags = flagsZN v s.flags ∧
      SameMemory s t ∧ SameOutside s t ∧ t.cyc = 4 ∧ t.busHistory = .read (stackAddr (s.sp + 1)) v :: s.busHistory) ∧
    (∃ t, exec .plp s = .next t ∧ t.a = s.a ∧ t.sp = s.sp + 1 ∧ t.x = s.x ∧ t.y = s.y ∧ t.pc = s.pc ∧
      t.flags = ⟨v.getLsbD 0, v.getLsbD 1, v.getLsbD 2, v.getLsbD 3, s.flags.b, v.getLsbD 6, v.getLsbD 7⟩ ∧
      SameMemory s t ∧ SameOutside s t ∧ t.cyc = 4 ∧ t.busHistory = .read (stackAddr (s.sp + 1)) v :: s.busHistory)

/-- The packed status: N V 1 b4 D I Z C from bit 7 to bit 0 (R39, R40), and Unpack writes six flags from it and leaves B (R41):
unpacking what was packed restores C, Z, I, D, V, N whatever bit 4 was. -/
def Obligations.PackLayoutAndUnpack : Prop :=
  ∀ (b4 : Bool) (f g : Flags) (p : Byte),
    (pack b4 f).toNat = 128 * f.n.toNat + 64 * f.v.toNat + 32 + 16 * b4.toNat + 8 * f.d.toNat + 4 * f.i.toNat + 2 * f.z.toNat + f.c.toNat ∧
      unpack p g = ⟨p.getLsbD 0, p.getLsbD 1, p.getLsbD 2, p.getLsbD 3, g.b, p.getLsbD 6, p.getLsbD 7⟩ ∧
      unpack (pack b4 f) g = { f with b := g.b }

/-! Interrupts. -/

/-- BRK: the interrupt entry through 0xFFFE with bit 4 and B set, the return address one past the padding byte; executed
whatever I is; cost 7 (R215, R250; B and order D9, D11; cost D2; the wrap of PC D4). That ROM and devices keep their bytes under a write is the
model's choice (log 3). -/
def Obligations.BrkEntersThroughTheIrqVector : Prop :=
  ∀ s : State, s.mem.wf = true → ∃ t, exec .brk s = .next t ∧ InterruptEntry true 0xFFFE (s.setPc (s.pc + 1)) t ∧ SameOutside s t ∧
    t.cyc = 7

/-- RTI: status, PC low and PC high are pulled in that order, with no increment; B is left; SP rises by 3 with wrap; A, X, Y and
memory are unchanged (R216, R251; cost D2). -/
def Obligations.RtiRestoresStatusAndPc : Prop :=
  ∀ s : State,
    let p := busValue (stackAddr (s.sp + 1)) s
    let frame := read16 (stackAddr (s.sp + 2)) (stackAddr (s.sp + 3)) (afterRead (stackAddr (s.sp + 1)) s)
    ∃ t, exec .rti s = .next t ∧ t.pc = frame.1 ∧ t.sp = s.sp + 3 ∧ t.a = s.a ∧ t.x = s.x ∧ t.y = s.y ∧
      t.flags = ⟨p.getLsbD 0, p.getLsbD 1, p.getLsbD 2, p.getLsbD 3, s.flags.b, p.getLsbD 6, p.getLsbD 7⟩ ∧
      SameMemory s t ∧ SameOutside s t ∧ t.busHistory = frame.2.busHistory ∧ t.cyc = 6

/-- "BRK/RTI round trip": on a RAM stack, RTI restores C, Z, I, D, V, N as they were before BRK, PC past the padding byte, SP
(95_test_vectors.md L1.4); B stays 1. -/
def Obligations.RtiUndoesBrk : Prop :=
  ∀ (here : Word) (s t : State), s.mem.wf = true → (∀ k : Byte, kindAt s.busMap (stackAddr k).toNat = .ram) →
    exec .brk s = .next t →
    ∃ u, exec .rti (t.setPc here) = .next u ∧ u.flags = { s.flags with b := true } ∧ u.pc = s.pc + 1 ∧ u.sp = s.sp

/-- NMI service at a boundary, whatever I and the IRQ line are: the latch is cleared, the entry goes through 0xFFFA with bit 4
and B clear, 7 cycles (R243, R241; the entry's details R245, D9, D11). That ROM and devices keep their bytes under a write is
the model's choice (log 3). -/
def Obligations.NmiIsServicedFirst : Prop :=
  ∀ s : State, AtBoundary s → s.nmiLatch = true → s.mem.wf = true →
    ∃ t, step s = .next t ∧ InterruptEntry false 0xFFFA s t ∧ t.nmiLatch = false ∧
      SameOutside { afterCall s with nmiLatch := false } t ∧ t.cyc = 7

/-- IRQ service at a boundary with no NMI latched, I = 0 and the line asserted: the entry goes through 0xFFFE with bit 4 and B
clear, 7 cycles; the line stays as it is (R244, R241; the entry's details R245, D9, D11). That ROM and devices keep their bytes
under a write is the model's choice (log 3). -/
def Obligations.IrqIsServicedWhenUnmasked : Prop :=
  ∀ s : State, AtBoundary s → s.nmiLatch = false → s.flags.i = false → s.irqLine = true → s.mem.wf = true →
    ∃ t, step s = .next t ∧ InterruptEntry false 0xFFFE s t ∧ SameOutside (afterCall s) t ∧ t.irqLine = true ∧ t.cyc = 7

/-! The engine. -/

/-- "If `cyc > 0` on entry: `cyc <- cyc − 1` and the tick returns `Ok`; nothing else changes and no bus access is made"; at 0
the tick runs the boundary sequence (R240). `afterCall` is the host's call being taken off the schedule, the model's framing
(log 4). -/
def Obligations.TickCountsDownToTheBoundary : Prop :=
  ∀ s : State, Ticking s →
    (s.cyc ≠ 0 → step s = .next { afterCall s with cyc := s.cyc - 1 }) ∧ (s.cyc = 0 → step s = boundary (afterCall s))

/-- A unit of cost c is followed by c countdown ticks and then the boundary: with nothing scheduled, cyc ticks lead to the same
state at a boundary (R241, R291: the reading is D30). -/
def Obligations.BoundaryComesAfterTheCost : Prop :=
  ∀ s : State, s.phase = .running → s.schedule = [] → steps s.cyc.toNat s = .next { s with cyc := 0 }

/-- A STEP RUNS THE DECODED INSTRUCTION: at a dispatch, when the bytes of memory at PC decode to the instruction i and no device
answers its bytes, the step is exec of i after the fetch: PC past its bytes, one read each in the history, one trace report
(R246, R100, R120, R256; the report's contents D10, log 15; the wrap of PC D4, log 12). Which addresses a device answers is the
model's region map (log 3), and `afterCall` in `afterFetch` is its framing (log 4). -/
def Obligations.StepRunsTheDecodedInstruction : Prop :=
  ∀ (s : State) (i : Instr) (rest : List Byte), AtDispatch s → decode (codeAt s 3) = .ok (i, rest) → i.wellFormed = true →
    CodeReadable s i.fetchedBytes.length → step s = exec i (afterFetch s i.opcode i.operand.bytes)

/-- An opcode byte with no table entry in Strict mode: the fault carries the byte, its address and the state the core halts in,
where the opcode's read and the trace report have been made, PC is the byte's address, and every register, flag and cyc are as at
the start of the tick (R252, R117; the halted state is the spec's decision D13, log 10, the report's contents D10, log 15).
`afterCall` is the model's framing (log 4). -/
def Obligations.StrictUnknownOpcodeFaults : Prop :=
  ∀ s : State, AtDispatch s → s.config.policy = .strict → busValue s.pc s ∈ unassignedBytes →
    step s = .fault (.unhandledOpcode (busValue s.pc s) s.pc
      { afterRead s.pc (afterCall s) with traceLog := report s (busValue s.pc s) ++ s.traceLog })

/-- An opcode byte with no table entry in Permissive mode: one report to the collaborator, cyc <- 2, PC past the byte; no
register, flag or memory is written (R246, R253, R257; the length of one byte is D17, log 18). That the trace hook reports an
unknown opcode too, and what it reports, is the spec's decision D10 (R256, log 15). That every occurrence is reported to the
collaborator is the model's choice (log 9), and `afterCall` is its framing (log 4). -/
def Obligations.PermissiveUnknownOpcodeIsANop : Prop :=
  ∀ s : State, AtDispatch s → s.config.policy = .permissive → busValue s.pc s ∈ unassignedBytes →
    step s = .next { afterRead s.pc (afterCall s) with
      pc := s.pc + 1, cyc := 2, traceLog := report s (busValue s.pc s) ++ s.traceLog,
      diagLog := ⟨busValue s.pc s, s.pc⟩ :: s.diagLog }

/-- "It is the only exception the core raises": a tick of a reset core answers a next state, except at a dispatch in Strict mode
of a byte with no table entry (R12, R254). -/
def Obligations.UnhandledOpcodeIsTheOnlyFault : Prop :=
  ∀ s : State, Ticking s → (∃ t, step s = .next t) ∨
    (AtDispatch s ∧ s.config.policy = .strict ∧ lookup (busValue s.pc s) = none ∧
      ∃ halted, step s = .fault (.unhandledOpcode (busValue s.pc s) s.pc halted))

/-- Every instruction, in every mode, on every operand and in every state, answers a next state, whose cyc is the base cycles of
its table row, plus one exactly when its operand's address crosses a page and the row takes that penalty, plus one exactly for a
taken branch and one more exactly when its target lies in another page (`extraCycles`: R119, R114, R190; costs D1, D2, D3, the
wrap that counts as a cross D27); there is no privileged instruction (R255, D18). -/
def Obligations.EveryInstructionCompletesAtItsCost : Prop :=
  ∀ (i : Instr) (s : State), ∃ t r, exec i s = .next t ∧ lookup i.opcode = some r ∧
    t.cyc.toNat = r.baseCycles + extraCycles i r.pageCross s ∧ 2 ≤ t.cyc.toNat ∧ t.cyc.toNat ≤ 7

/-! Reset and the host. -/

/-- `reset(automation)`: SP 0xFD, I set and the other flags clear, cyc 7, PC 0xC000 or the reset vector; A, X, Y, the latch, the
line, memory, the devices, the parameters and the reports made are not written (R280-R286; the values D5, D6, D7, D8, D15, log
13). That the host's other calls stay on the schedule is the model's framing (log 4). -/
def Obligations.ResetCallSetsTheCore : Prop :=
  ∀ (s : State) (automation : Bool) (later : List HostCall), s.schedule = .reset automation :: later →
    ∃ t, step s = .next t ∧ t.sp = 0xFD ∧ t.flags = ⟨false, false, true, false, false, false, false⟩ ∧ pack false t.flags = 0x24 ∧
      t.cyc = 7 ∧ t.pc = (if automation then 0xC000 else (read16 0xFFFC 0xFFFD s).1) ∧
      t.busHistory = (if automation then s.busHistory else (read16 0xFFFC 0xFFFD s).2.busHistory) ∧
      t.a = s.a ∧ t.x = s.x ∧ t.y = s.y ∧ t.nmiLatch = s.nmiLatch ∧ t.irqLine = s.irqLine ∧ t.mem = s.mem ∧ t.phase = .running ∧
      t.devicesTouched = s.devicesTouched ∧ t.busMap = s.busMap ∧ t.config = s.config ∧ t.traceLog = s.traceLog ∧
      t.diagLog = s.diagLog ∧ t.schedule = later

/-- State.reset is the state the first `reset(false)` of a fresh process leaves (R280, R284; the model's choices of log 1 and
logs 3 to 7 fix the bus, the schedule, the line, the latch and the configuration). -/
def Obligations.ResetStateIsTheFirstReset : Prop :=
  hostReset false processStart = State.reset ∧ Inv State.reset ∧ State.reset.sp = 0xFD ∧ State.reset.cyc = 7 ∧
    pack false State.reset.flags = 0x24

/-- Before the first reset a tick is not defined: the step is refused by name (R287, D29). -/
def Obligations.TickBeforeResetIsRefused : Prop :=
  ∀ s : State, s.phase = .unreset → NextIsTick s → step s = .refused .tickBeforeReset

/-! Whole-machine rules. -/

/-- The invariant: every step, of the core or of the host, from any state with canonical memory and a countdown of at most 7
leaves both (R49; the canonical form is the model's own, log 1). -/
def Obligations.StepKeepsInvariant : Prop :=
  ∀ s t : State, Inv s → step s = .next t → Inv t

/-- The bus history accounts for memory: every step but the host's own change of memory appends events to the history, each read
of memory among them gives the byte memory held at that point, and the writes among them, applied in order, are exactly what
happened to memory (R84, R85, R88). That ROM and devices keep their bytes under a write is the model's choice (log 3). -/
def Obligations.HistoryAccountsForMemory : Prop :=
  ∀ s t : State, (∀ a v later, s.schedule ≠ .pokeBus a v :: later) → step s = .next t →
    ∃ es : List BusEvent, t.busHistory = es.reverse ++ s.busHistory ∧ replay s.busMap es s.mem = some t.mem

/-- The session's parameters never change, the core never writes the IRQ line, and it clears the NMI latch only by servicing an
NMI (R6, R50, R51, R264). Each act of the host between ticks completes, sets the one thing it names and changes nothing else:
the latch, the line, one byte of memory, the state of the devices (R85, R264). The schedule of the acts, that the latch may be
written either way, the counter that stands for the devices and the region map are the model's framing (logs 2, 3, 4). -/
def Obligations.EnvironmentIsTheHosts : Prop :=
  (∀ s t : State, step s = .next t → t.config = s.config ∧ t.busMap = s.busMap ∧
    (Ticking s → t.irqLine = s.irqLine) ∧
    (Ticking s → t.nmiLatch = s.nmiLatch ∨ (AtBoundary s ∧ s.nmiLatch = true ∧ t.nmiLatch = false))) ∧
  ∀ (s : State) (later : List HostCall),
    (∀ latched, s.schedule = .setNmiLatch latched :: later →
      step s = .next { s with schedule := later, nmiLatch := latched }) ∧
    (∀ level, s.schedule = .driveIrq level :: later → step s = .next { s with schedule := later, irqLine := level }) ∧
    (∀ touch, s.schedule = .touchDevices touch :: later →
      step s = .next { s with schedule := later, devicesTouched := touch }) ∧
    ∀ a v, s.schedule = .pokeBus a v :: later → ∃ t, step s = .next t ∧ { t with mem := s.mem } = { s with schedule := later } ∧
      (s.mem.wf = true → t.mem.read a.toNat = v) ∧ ∀ b, b ≠ a.toNat → t.mem.read b = s.mem.read b

/-- The trace hook alters nothing: the step without it answers the same, reports aside (R256, "this must not alter engine
state"). -/
def Obligations.TraceHookAltersNothing : Prop :=
  ∀ s : State, step (untraced s) = mapState untraced (step s)

/-- No instruction reads the stored B or cyc: what an instruction does is the same whatever they hold, B itself aside (R46,
R258). -/
def Obligations.StoredBreakAndCountdownAreNotRead : Prop :=
  ∀ (i : Instr) (s : State) (b : Bool) (n : BitVec 32),
    mapState (withB false) (exec i (withB b { s with cyc := n })) = mapState (withB false) (exec i s)

/-- Who writes which flag (R42, R44-R47): C, I, D, B and V are changed by no instruction outside their lists. -/
def Obligations.FlagsHaveTheirWriters : Prop :=
  ∀ (i : Instr) (s t : State), exec i s = .next t →
    (t.flags.c ≠ s.flags.c → i.mnemonic ∈ [.adc, .sbc, .cmp, .cpx, .cpy, .asl, .lsr, .rol, .ror, .clc, .sec, .plp, .rti]) ∧
    (t.flags.i ≠ s.flags.i → i.mnemonic ∈ [.sei, .cli, .brk, .plp, .rti]) ∧
    (t.flags.d ≠ s.flags.d → i.mnemonic ∈ [.sed, .cld, .plp, .rti]) ∧
    (t.flags.b ≠ s.flags.b → i.mnemonic = .brk ∧ t.flags.b = true) ∧
    (t.flags.v ≠ s.flags.v → i.mnemonic ∈ [.adc, .sbc, .bit, .clv, .plp, .rti])

/-- Who writes which register (R31-R34): A, X, Y and SP are changed by no instruction outside their lists. -/
def Obligations.RegistersHaveTheirWriters : Prop :=
  ∀ (i : Instr) (s t : State), exec i s = .next t →
    (t.a ≠ s.a → i.mnemonic ∈ [.lda, .adc, .sbc, .and, .ora, .eor, .pla, .txa, .tya] ∨ i.operand = .acc) ∧
    (t.x ≠ s.x → i.mnemonic ∈ [.ldx, .tax, .tsx, .inx, .dex]) ∧
    (t.y ≠ s.y → i.mnemonic ∈ [.ldy, .tay, .iny, .dey]) ∧
    (t.sp ≠ s.sp → i.mnemonic ∈ [.pha, .php, .pla, .plp, .jsr, .rts, .brk, .rti, .txs])

/-- A change of I by CLI, SEI, PLP or RTI counts at the very next boundary: with the line asserted and no NMI, the step after
the countdown takes the IRQ exactly when the instruction left I = 0, and else dispatches the next opcode (R290, D14). -/
def Obligations.InterruptMaskActsAtTheNextBoundary : Prop :=
  ∀ (i : Instr) (s : State), i = .cli ∨ i = .sei ∨ i = .plp ∨ i = .rti → s.phase = .running → s.schedule = [] →
    s.nmiLatch = false → s.irqLine = true → ∃ t, exec i s = .next t ∧ (i = .cli → t.flags.i = false) ∧ (i = .sei → t.flags.i = true) ∧
      steps (t.cyc.toNat + 1) t =
        if t.flags.i then dispatch { t with cyc := 0 } else serviceIrq { t with cyc := 0 }
end

