-- ==== Sys2Proof/Laws/State.lean ====
section
/-! SUPPORT. What each register write, bus access and flag computation leaves in each field: one lemma per field per update,
true by definition. -/

namespace Sys2Proof.Machine

@[simp] theorem State.setPc_pc (s : State) (v : Word) : (s.setPc v).pc = v := rfl
@[simp] theorem State.setPc_sp (s : State) (v : Word) : (s.setPc v).sp = s.sp := rfl
@[simp] theorem State.setPc_a (s : State) (v : Word) : (s.setPc v).a = s.a := rfl
@[simp] theorem State.setPc_x (s : State) (v : Word) : (s.setPc v).x = s.x := rfl
@[simp] theorem State.setPc_y (s : State) (v : Word) : (s.setPc v).y = s.y := rfl
@[simp] theorem State.setPc_flags (s : State) (v : Word) : (s.setPc v).flags = s.flags := rfl
@[simp] theorem State.setPc_cyc (s : State) (v : Word) : (s.setPc v).cyc = s.cyc := rfl
@[simp] theorem State.setPc_nmiLatch (s : State) (v : Word) : (s.setPc v).nmiLatch = s.nmiLatch := rfl
@[simp] theorem State.setPc_irqLine (s : State) (v : Word) : (s.setPc v).irqLine = s.irqLine := rfl
@[simp] theorem State.setPc_mem (s : State) (v : Word) : (s.setPc v).mem = s.mem := rfl
@[simp] theorem State.setPc_busMap (s : State) (v : Word) : (s.setPc v).busMap = s.busMap := rfl
@[simp] theorem State.setPc_devicesTouched (s : State) (v : Word) : (s.setPc v).devicesTouched = s.devicesTouched := rfl
@[simp] theorem State.setPc_busHistory (s : State) (v : Word) : (s.setPc v).busHistory = s.busHistory := rfl
@[simp] theorem State.setPc_traceLog (s : State) (v : Word) : (s.setPc v).traceLog = s.traceLog := rfl
@[simp] theorem State.setPc_diagLog (s : State) (v : Word) : (s.setPc v).diagLog = s.diagLog := rfl
@[simp] theorem State.setPc_config (s : State) (v : Word) : (s.setPc v).config = s.config := rfl
@[simp] theorem State.setPc_phase (s : State) (v : Word) : (s.setPc v).phase = s.phase := rfl
@[simp] theorem State.setPc_schedule (s : State) (v : Word) : (s.setPc v).schedule = s.schedule := rfl

@[simp] theorem State.setSp_pc (s : State) (v : Byte) : (s.setSp v).pc = s.pc := rfl
@[simp] theorem State.setSp_sp (s : State) (v : Byte) : (s.setSp v).sp = v := rfl
@[simp] theorem State.setSp_a (s : State) (v : Byte) : (s.setSp v).a = s.a := rfl
@[simp] theorem State.setSp_x (s : State) (v : Byte) : (s.setSp v).x = s.x := rfl
@[simp] theorem State.setSp_y (s : State) (v : Byte) : (s.setSp v).y = s.y := rfl
@[simp] theorem State.setSp_flags (s : State) (v : Byte) : (s.setSp v).flags = s.flags := rfl
@[simp] theorem State.setSp_cyc (s : State) (v : Byte) : (s.setSp v).cyc = s.cyc := rfl
@[simp] theorem State.setSp_nmiLatch (s : State) (v : Byte) : (s.setSp v).nmiLatch = s.nmiLatch := rfl
@[simp] theorem State.setSp_irqLine (s : State) (v : Byte) : (s.setSp v).irqLine = s.irqLine := rfl
@[simp] theorem State.setSp_mem (s : State) (v : Byte) : (s.setSp v).mem = s.mem := rfl
@[simp] theorem State.setSp_busMap (s : State) (v : Byte) : (s.setSp v).busMap = s.busMap := rfl
@[simp] theorem State.setSp_devicesTouched (s : State) (v : Byte) : (s.setSp v).devicesTouched = s.devicesTouched := rfl
@[simp] theorem State.setSp_busHistory (s : State) (v : Byte) : (s.setSp v).busHistory = s.busHistory := rfl
@[simp] theorem State.setSp_traceLog (s : State) (v : Byte) : (s.setSp v).traceLog = s.traceLog := rfl
@[simp] theorem State.setSp_diagLog (s : State) (v : Byte) : (s.setSp v).diagLog = s.diagLog := rfl
@[simp] theorem State.setSp_config (s : State) (v : Byte) : (s.setSp v).config = s.config := rfl
@[simp] theorem State.setSp_phase (s : State) (v : Byte) : (s.setSp v).phase = s.phase := rfl
@[simp] theorem State.setSp_schedule (s : State) (v : Byte) : (s.setSp v).schedule = s.schedule := rfl

@[simp] theorem State.setA_pc (s : State) (v : Byte) : (s.setA v).pc = s.pc := rfl
@[simp] theorem State.setA_sp (s : State) (v : Byte) : (s.setA v).sp = s.sp := rfl
@[simp] theorem State.setA_a (s : State) (v : Byte) : (s.setA v).a = v := rfl
@[simp] theorem State.setA_x (s : State) (v : Byte) : (s.setA v).x = s.x := rfl
@[simp] theorem State.setA_y (s : State) (v : Byte) : (s.setA v).y = s.y := rfl
@[simp] theorem State.setA_flags (s : State) (v : Byte) : (s.setA v).flags = s.flags := rfl
@[simp] theorem State.setA_cyc (s : State) (v : Byte) : (s.setA v).cyc = s.cyc := rfl
@[simp] theorem State.setA_nmiLatch (s : State) (v : Byte) : (s.setA v).nmiLatch = s.nmiLatch := rfl
@[simp] theorem State.setA_irqLine (s : State) (v : Byte) : (s.setA v).irqLine = s.irqLine := rfl
@[simp] theorem State.setA_mem (s : State) (v : Byte) : (s.setA v).mem = s.mem := rfl
@[simp] theorem State.setA_busMap (s : State) (v : Byte) : (s.setA v).busMap = s.busMap := rfl
@[simp] theorem State.setA_devicesTouched (s : State) (v : Byte) : (s.setA v).devicesTouched = s.devicesTouched := rfl
@[simp] theorem State.setA_busHistory (s : State) (v : Byte) : (s.setA v).busHistory = s.busHistory := rfl
@[simp] theorem State.setA_traceLog (s : State) (v : Byte) : (s.setA v).traceLog = s.traceLog := rfl
@[simp] theorem State.setA_diagLog (s : State) (v : Byte) : (s.setA v).diagLog = s.diagLog := rfl
@[simp] theorem State.setA_config (s : State) (v : Byte) : (s.setA v).config = s.config := rfl
@[simp] theorem State.setA_phase (s : State) (v : Byte) : (s.setA v).phase = s.phase := rfl
@[simp] theorem State.setA_schedule (s : State) (v : Byte) : (s.setA v).schedule = s.schedule := rfl

@[simp] theorem State.setX_pc (s : State) (v : Byte) : (s.setX v).pc = s.pc := rfl
@[simp] theorem State.setX_sp (s : State) (v : Byte) : (s.setX v).sp = s.sp := rfl
@[simp] theorem State.setX_a (s : State) (v : Byte) : (s.setX v).a = s.a := rfl
@[simp] theorem State.setX_x (s : State) (v : Byte) : (s.setX v).x = v := rfl
@[simp] theorem State.setX_y (s : State) (v : Byte) : (s.setX v).y = s.y := rfl
@[simp] theorem State.setX_flags (s : State) (v : Byte) : (s.setX v).flags = s.flags := rfl
@[simp] theorem State.setX_cyc (s : State) (v : Byte) : (s.setX v).cyc = s.cyc := rfl
@[simp] theorem State.setX_nmiLatch (s : State) (v : Byte) : (s.setX v).nmiLatch = s.nmiLatch := rfl
@[simp] theorem State.setX_irqLine (s : State) (v : Byte) : (s.setX v).irqLine = s.irqLine := rfl
@[simp] theorem State.setX_mem (s : State) (v : Byte) : (s.setX v).mem = s.mem := rfl
@[simp] theorem State.setX_busMap (s : State) (v : Byte) : (s.setX v).busMap = s.busMap := rfl
@[simp] theorem State.setX_devicesTouched (s : State) (v : Byte) : (s.setX v).devicesTouched = s.devicesTouched := rfl
@[simp] theorem State.setX_busHistory (s : State) (v : Byte) : (s.setX v).busHistory = s.busHistory := rfl
@[simp] theorem State.setX_traceLog (s : State) (v : Byte) : (s.setX v).traceLog = s.traceLog := rfl
@[simp] theorem State.setX_diagLog (s : State) (v : Byte) : (s.setX v).diagLog = s.diagLog := rfl
@[simp] theorem State.setX_config (s : State) (v : Byte) : (s.setX v).config = s.config := rfl
@[simp] theorem State.setX_phase (s : State) (v : Byte) : (s.setX v).phase = s.phase := rfl
@[simp] theorem State.setX_schedule (s : State) (v : Byte) : (s.setX v).schedule = s.schedule := rfl

@[simp] theorem State.setY_pc (s : State) (v : Byte) : (s.setY v).pc = s.pc := rfl
@[simp] theorem State.setY_sp (s : State) (v : Byte) : (s.setY v).sp = s.sp := rfl
@[simp] theorem State.setY_a (s : State) (v : Byte) : (s.setY v).a = s.a := rfl
@[simp] theorem State.setY_x (s : State) (v : Byte) : (s.setY v).x = s.x := rfl
@[simp] theorem State.setY_y (s : State) (v : Byte) : (s.setY v).y = v := rfl
@[simp] theorem State.setY_flags (s : State) (v : Byte) : (s.setY v).flags = s.flags := rfl
@[simp] theorem State.setY_cyc (s : State) (v : Byte) : (s.setY v).cyc = s.cyc := rfl
@[simp] theorem State.setY_nmiLatch (s : State) (v : Byte) : (s.setY v).nmiLatch = s.nmiLatch := rfl
@[simp] theorem State.setY_irqLine (s : State) (v : Byte) : (s.setY v).irqLine = s.irqLine := rfl
@[simp] theorem State.setY_mem (s : State) (v : Byte) : (s.setY v).mem = s.mem := rfl
@[simp] theorem State.setY_busMap (s : State) (v : Byte) : (s.setY v).busMap = s.busMap := rfl
@[simp] theorem State.setY_devicesTouched (s : State) (v : Byte) : (s.setY v).devicesTouched = s.devicesTouched := rfl
@[simp] theorem State.setY_busHistory (s : State) (v : Byte) : (s.setY v).busHistory = s.busHistory := rfl
@[simp] theorem State.setY_traceLog (s : State) (v : Byte) : (s.setY v).traceLog = s.traceLog := rfl
@[simp] theorem State.setY_diagLog (s : State) (v : Byte) : (s.setY v).diagLog = s.diagLog := rfl
@[simp] theorem State.setY_config (s : State) (v : Byte) : (s.setY v).config = s.config := rfl
@[simp] theorem State.setY_phase (s : State) (v : Byte) : (s.setY v).phase = s.phase := rfl
@[simp] theorem State.setY_schedule (s : State) (v : Byte) : (s.setY v).schedule = s.schedule := rfl

@[simp] theorem State.setFlags_pc (s : State) (f : Flags) : (s.setFlags f).pc = s.pc := rfl
@[simp] theorem State.setFlags_sp (s : State) (f : Flags) : (s.setFlags f).sp = s.sp := rfl
@[simp] theorem State.setFlags_a (s : State) (f : Flags) : (s.setFlags f).a = s.a := rfl
@[simp] theorem State.setFlags_x (s : State) (f : Flags) : (s.setFlags f).x = s.x := rfl
@[simp] theorem State.setFlags_y (s : State) (f : Flags) : (s.setFlags f).y = s.y := rfl
@[simp] theorem State.setFlags_flags (s : State) (f : Flags) : (s.setFlags f).flags = f := rfl
@[simp] theorem State.setFlags_cyc (s : State) (f : Flags) : (s.setFlags f).cyc = s.cyc := rfl
@[simp] theorem State.setFlags_nmiLatch (s : State) (f : Flags) : (s.setFlags f).nmiLatch = s.nmiLatch := rfl
@[simp] theorem State.setFlags_irqLine (s : State) (f : Flags) : (s.setFlags f).irqLine = s.irqLine := rfl
@[simp] theorem State.setFlags_mem (s : State) (f : Flags) : (s.setFlags f).mem = s.mem := rfl
@[simp] theorem State.setFlags_busMap (s : State) (f : Flags) : (s.setFlags f).busMap = s.busMap := rfl
@[simp] theorem State.setFlags_devicesTouched (s : State) (f : Flags) : (s.setFlags f).devicesTouched = s.devicesTouched := rfl
@[simp] theorem State.setFlags_busHistory (s : State) (f : Flags) : (s.setFlags f).busHistory = s.busHistory := rfl
@[simp] theorem State.setFlags_traceLog (s : State) (f : Flags) : (s.setFlags f).traceLog = s.traceLog := rfl
@[simp] theorem State.setFlags_diagLog (s : State) (f : Flags) : (s.setFlags f).diagLog = s.diagLog := rfl
@[simp] theorem State.setFlags_config (s : State) (f : Flags) : (s.setFlags f).config = s.config := rfl
@[simp] theorem State.setFlags_phase (s : State) (f : Flags) : (s.setFlags f).phase = s.phase := rfl
@[simp] theorem State.setFlags_schedule (s : State) (f : Flags) : (s.setFlags f).schedule = s.schedule := rfl

@[simp] theorem State.updateZN_pc (s : State) (v : Byte) : (s.updateZN v).pc = s.pc := rfl
@[simp] theorem State.updateZN_sp (s : State) (v : Byte) : (s.updateZN v).sp = s.sp := rfl
@[simp] theorem State.updateZN_a (s : State) (v : Byte) : (s.updateZN v).a = s.a := rfl
@[simp] theorem State.updateZN_x (s : State) (v : Byte) : (s.updateZN v).x = s.x := rfl
@[simp] theorem State.updateZN_y (s : State) (v : Byte) : (s.updateZN v).y = s.y := rfl
@[simp] theorem State.updateZN_flags (s : State) (v : Byte) : (s.updateZN v).flags = setZN v s.flags := rfl
@[simp] theorem State.updateZN_cyc (s : State) (v : Byte) : (s.updateZN v).cyc = s.cyc := rfl
@[simp] theorem State.updateZN_nmiLatch (s : State) (v : Byte) : (s.updateZN v).nmiLatch = s.nmiLatch := rfl
@[simp] theorem State.updateZN_irqLine (s : State) (v : Byte) : (s.updateZN v).irqLine = s.irqLine := rfl
@[simp] theorem State.updateZN_mem (s : State) (v : Byte) : (s.updateZN v).mem = s.mem := rfl
@[simp] theorem State.updateZN_busMap (s : State) (v : Byte) : (s.updateZN v).busMap = s.busMap := rfl
@[simp] theorem State.updateZN_devicesTouched (s : State) (v : Byte) : (s.updateZN v).devicesTouched = s.devicesTouched := rfl
@[simp] theorem State.updateZN_busHistory (s : State) (v : Byte) : (s.updateZN v).busHistory = s.busHistory := rfl
@[simp] theorem State.updateZN_traceLog (s : State) (v : Byte) : (s.updateZN v).traceLog = s.traceLog := rfl
@[simp] theorem State.updateZN_diagLog (s : State) (v : Byte) : (s.updateZN v).diagLog = s.diagLog := rfl
@[simp] theorem State.updateZN_config (s : State) (v : Byte) : (s.updateZN v).config = s.config := rfl
@[simp] theorem State.updateZN_phase (s : State) (v : Byte) : (s.updateZN v).phase = s.phase := rfl
@[simp] theorem State.updateZN_schedule (s : State) (v : Byte) : (s.updateZN v).schedule = s.schedule := rfl

@[simp] theorem State.charge_pc (s : State) (n : Nat) : (s.charge n).pc = s.pc := rfl
@[simp] theorem State.charge_sp (s : State) (n : Nat) : (s.charge n).sp = s.sp := rfl
@[simp] theorem State.charge_a (s : State) (n : Nat) : (s.charge n).a = s.a := rfl
@[simp] theorem State.charge_x (s : State) (n : Nat) : (s.charge n).x = s.x := rfl
@[simp] theorem State.charge_y (s : State) (n : Nat) : (s.charge n).y = s.y := rfl
@[simp] theorem State.charge_flags (s : State) (n : Nat) : (s.charge n).flags = s.flags := rfl
@[simp] theorem State.charge_cyc (s : State) (n : Nat) : (s.charge n).cyc = BitVec.ofNat 32 n := rfl
@[simp] theorem State.charge_nmiLatch (s : State) (n : Nat) : (s.charge n).nmiLatch = s.nmiLatch := rfl
@[simp] theorem State.charge_irqLine (s : State) (n : Nat) : (s.charge n).irqLine = s.irqLine := rfl
@[simp] theorem State.charge_mem (s : State) (n : Nat) : (s.charge n).mem = s.mem := rfl
@[simp] theorem State.charge_busMap (s : State) (n : Nat) : (s.charge n).busMap = s.busMap := rfl
@[simp] theorem State.charge_devicesTouched (s : State) (n : Nat) : (s.charge n).devicesTouched = s.devicesTouched := rfl
@[simp] theorem State.charge_busHistory (s : State) (n : Nat) : (s.charge n).busHistory = s.busHistory := rfl
@[simp] theorem State.charge_traceLog (s : State) (n : Nat) : (s.charge n).traceLog = s.traceLog := rfl
@[simp] theorem State.charge_diagLog (s : State) (n : Nat) : (s.charge n).diagLog = s.diagLog := rfl
@[simp] theorem State.charge_config (s : State) (n : Nat) : (s.charge n).config = s.config := rfl
@[simp] theorem State.charge_phase (s : State) (n : Nat) : (s.charge n).phase = s.phase := rfl
@[simp] theorem State.charge_schedule (s : State) (n : Nat) : (s.charge n).schedule = s.schedule := rfl

@[simp] theorem afterRead_pc (a : Word) (s : State) : (afterRead a s).pc = s.pc := rfl
@[simp] theorem afterRead_sp (a : Word) (s : State) : (afterRead a s).sp = s.sp := rfl
@[simp] theorem afterRead_a (a : Word) (s : State) : (afterRead a s).a = s.a := rfl
@[simp] theorem afterRead_x (a : Word) (s : State) : (afterRead a s).x = s.x := rfl
@[simp] theorem afterRead_y (a : Word) (s : State) : (afterRead a s).y = s.y := rfl
@[simp] theorem afterRead_flags (a : Word) (s : State) : (afterRead a s).flags = s.flags := rfl
@[simp] theorem afterRead_cyc (a : Word) (s : State) : (afterRead a s).cyc = s.cyc := rfl
@[simp] theorem afterRead_nmiLatch (a : Word) (s : State) : (afterRead a s).nmiLatch = s.nmiLatch := rfl
@[simp] theorem afterRead_irqLine (a : Word) (s : State) : (afterRead a s).irqLine = s.irqLine := rfl
@[simp] theorem afterRead_mem (a : Word) (s : State) : (afterRead a s).mem = s.mem := rfl
@[simp] theorem afterRead_busMap (a : Word) (s : State) : (afterRead a s).busMap = s.busMap := rfl
@[simp] theorem afterRead_devicesTouched (a : Word) (s : State) : (afterRead a s).devicesTouched = s.devicesTouched := rfl
@[simp] theorem afterRead_busHistory (a : Word) (s : State) : (afterRead a s).busHistory = .read a (busValue a s) :: s.busHistory := rfl
@[simp] theorem afterRead_traceLog (a : Word) (s : State) : (afterRead a s).traceLog = s.traceLog := rfl
@[simp] theorem afterRead_diagLog (a : Word) (s : State) : (afterRead a s).diagLog = s.diagLog := rfl
@[simp] theorem afterRead_config (a : Word) (s : State) : (afterRead a s).config = s.config := rfl
@[simp] theorem afterRead_phase (a : Word) (s : State) : (afterRead a s).phase = s.phase := rfl
@[simp] theorem afterRead_schedule (a : Word) (s : State) : (afterRead a s).schedule = s.schedule := rfl

@[simp] theorem memWrite_pc (a : Word) (v : Byte) (s : State) : (memWrite a v s).pc = s.pc := rfl
@[simp] theorem memWrite_sp (a : Word) (v : Byte) (s : State) : (memWrite a v s).sp = s.sp := rfl
@[simp] theorem memWrite_a (a : Word) (v : Byte) (s : State) : (memWrite a v s).a = s.a := rfl
@[simp] theorem memWrite_x (a : Word) (v : Byte) (s : State) : (memWrite a v s).x = s.x := rfl
@[simp] theorem memWrite_y (a : Word) (v : Byte) (s : State) : (memWrite a v s).y = s.y := rfl
@[simp] theorem memWrite_flags (a : Word) (v : Byte) (s : State) : (memWrite a v s).flags = s.flags := rfl
@[simp] theorem memWrite_cyc (a : Word) (v : Byte) (s : State) : (memWrite a v s).cyc = s.cyc := rfl
@[simp] theorem memWrite_nmiLatch (a : Word) (v : Byte) (s : State) : (memWrite a v s).nmiLatch = s.nmiLatch := rfl
@[simp] theorem memWrite_irqLine (a : Word) (v : Byte) (s : State) : (memWrite a v s).irqLine = s.irqLine := rfl
@[simp] theorem memWrite_mem (a : Word) (v : Byte) (s : State) : (memWrite a v s).mem = if kindAt s.busMap a.toNat = .ram then s.mem.write a.toNat v else s.mem := rfl
@[simp] theorem memWrite_busMap (a : Word) (v : Byte) (s : State) : (memWrite a v s).busMap = s.busMap := rfl
@[simp] theorem memWrite_devicesTouched (a : Word) (v : Byte) (s : State) : (memWrite a v s).devicesTouched = s.devicesTouched := rfl
@[simp] theorem memWrite_busHistory (a : Word) (v : Byte) (s : State) : (memWrite a v s).busHistory = .write a v :: s.busHistory := rfl
@[simp] theorem memWrite_traceLog (a : Word) (v : Byte) (s : State) : (memWrite a v s).traceLog = s.traceLog := rfl
@[simp] theorem memWrite_diagLog (a : Word) (v : Byte) (s : State) : (memWrite a v s).diagLog = s.diagLog := rfl
@[simp] theorem memWrite_config (a : Word) (v : Byte) (s : State) : (memWrite a v s).config = s.config := rfl
@[simp] theorem memWrite_phase (a : Word) (v : Byte) (s : State) : (memWrite a v s).phase = s.phase := rfl
@[simp] theorem memWrite_schedule (a : Word) (v : Byte) (s : State) : (memWrite a v s).schedule = s.schedule := rfl

@[simp] theorem memRead_fst (a : Word) (s : State) : (memRead a s).1 = busValue a s := rfl
@[simp] theorem memRead_snd (a : Word) (s : State) : (memRead a s).2 = afterRead a s := rfl

@[simp] theorem setZN_c (v : Byte) (f : Flags) : (setZN v f).c = f.c := rfl
@[simp] theorem setZN_z (v : Byte) (f : Flags) : (setZN v f).z = (v == 0x00) := rfl
@[simp] theorem setZN_i (v : Byte) (f : Flags) : (setZN v f).i = f.i := rfl
@[simp] theorem setZN_d (v : Byte) (f : Flags) : (setZN v f).d = f.d := rfl
@[simp] theorem setZN_b (v : Byte) (f : Flags) : (setZN v f).b = f.b := rfl
@[simp] theorem setZN_v (v : Byte) (f : Flags) : (setZN v f).v = f.v := rfl
@[simp] theorem setZN_n (v : Byte) (f : Flags) : (setZN v f).n = v.getLsbD 7 := rfl

@[simp] theorem unpack_c (p : Byte) (f : Flags) : (unpack p f).c = p.getLsbD 0 := rfl
@[simp] theorem unpack_z (p : Byte) (f : Flags) : (unpack p f).z = p.getLsbD 1 := rfl
@[simp] theorem unpack_i (p : Byte) (f : Flags) : (unpack p f).i = p.getLsbD 2 := rfl
@[simp] theorem unpack_d (p : Byte) (f : Flags) : (unpack p f).d = p.getLsbD 3 := rfl
@[simp] theorem unpack_b (p : Byte) (f : Flags) : (unpack p f).b = f.b := rfl
@[simp] theorem unpack_v (p : Byte) (f : Flags) : (unpack p f).v = p.getLsbD 6 := rfl
@[simp] theorem unpack_n (p : Byte) (f : Flags) : (unpack p f).n = p.getLsbD 7 := rfl

@[simp] theorem bitFlags_c (a m : Byte) (f : Flags) : (bitFlags a m f).c = f.c := rfl
@[simp] theorem bitFlags_z (a m : Byte) (f : Flags) : (bitFlags a m f).z = (m &&& a == 0x00) := rfl
@[simp] theorem bitFlags_i (a m : Byte) (f : Flags) : (bitFlags a m f).i = f.i := rfl
@[simp] theorem bitFlags_d (a m : Byte) (f : Flags) : (bitFlags a m f).d = f.d := rfl
@[simp] theorem bitFlags_b (a m : Byte) (f : Flags) : (bitFlags a m f).b = f.b := rfl
@[simp] theorem bitFlags_v (a m : Byte) (f : Flags) : (bitFlags a m f).v = m.getLsbD 6 := rfl
@[simp] theorem bitFlags_n (a m : Byte) (f : Flags) : (bitFlags a m f).n = m.getLsbD 7 := rfl

@[simp] theorem compareFlags_c (r m : Byte) (f : Flags) : (compareFlags r m f).c = decide (m.toNat ≤ r.toNat) := rfl
@[simp] theorem compareFlags_z (r m : Byte) (f : Flags) : (compareFlags r m f).z = decide (r = m) := rfl
@[simp] theorem compareFlags_i (r m : Byte) (f : Flags) : (compareFlags r m f).i = f.i := rfl
@[simp] theorem compareFlags_d (r m : Byte) (f : Flags) : (compareFlags r m f).d = f.d := rfl
@[simp] theorem compareFlags_b (r m : Byte) (f : Flags) : (compareFlags r m f).b = f.b := rfl
@[simp] theorem compareFlags_v (r m : Byte) (f : Flags) : (compareFlags r m f).v = f.v := rfl
@[simp] theorem compareFlags_n (r m : Byte) (f : Flags) : (compareFlags r m f).n = (BitVec.ofInt 8 ((r.toNat : Int) - (m.toNat : Int))).getLsbD 7 := rfl

@[simp] theorem adcFlags_c (a m : Byte) (f : Flags) : (adcFlags a m f).c = decide (adcSum a m f.c > 0xFF) := rfl
@[simp] theorem adcFlags_z (a m : Byte) (f : Flags) : (adcFlags a m f).z = (adcResult a m f.c == 0x00) := rfl
@[simp] theorem adcFlags_i (a m : Byte) (f : Flags) : (adcFlags a m f).i = f.i := rfl
@[simp] theorem adcFlags_d (a m : Byte) (f : Flags) : (adcFlags a m f).d = f.d := rfl
@[simp] theorem adcFlags_b (a m : Byte) (f : Flags) : (adcFlags a m f).b = f.b := rfl
@[simp] theorem adcFlags_v (a m : Byte) (f : Flags) : (adcFlags a m f).v = (~~~(a ^^^ m) &&& (a ^^^ adcResult a m f.c)).getLsbD 7 := rfl
@[simp] theorem adcFlags_n (a m : Byte) (f : Flags) : (adcFlags a m f).n = (adcResult a m f.c).getLsbD 7 := rfl

@[simp] theorem sbcFlags_c (a m : Byte) (f : Flags) : (sbcFlags a m f).c = decide (0 ≤ sbcDiff a m f.c) := rfl
@[simp] theorem sbcFlags_z (a m : Byte) (f : Flags) : (sbcFlags a m f).z = (sbcResult a m f.c == 0x00) := rfl
@[simp] theorem sbcFlags_i (a m : Byte) (f : Flags) : (sbcFlags a m f).i = f.i := rfl
@[simp] theorem sbcFlags_d (a m : Byte) (f : Flags) : (sbcFlags a m f).d = f.d := rfl
@[simp] theorem sbcFlags_b (a m : Byte) (f : Flags) : (sbcFlags a m f).b = f.b := rfl
@[simp] theorem sbcFlags_v (a m : Byte) (f : Flags) : (sbcFlags a m f).v = ((a ^^^ m) &&& (a ^^^ sbcResult a m f.c)).getLsbD 7 := rfl
@[simp] theorem sbcFlags_n (a m : Byte) (f : Flags) : (sbcFlags a m f).n = (sbcResult a m f.c).getLsbD 7 := rfl

end Sys2Proof.Machine
end

