-- ==== Sys2Proof/Laws/Flags.lean ====
section
/-! SUPPORT. The flag computations as arithmetic on numbers: one lemma for each (R11, R151, R152, R180, R184, R161-R164). -/

namespace Sys2Proof.Machine

open Sys2Proof.Safety

/-- Bit 7 of a byte is its being 128 or more. -/
theorem getLsbD_seven (v : Byte) : v.getLsbD 7 = decide (v.toNat ≥ 128) := by
  rw [← BitVec.msb_eq_getLsbD_last (w := 8), BitVec.msb_eq_decide]

theorem setZN_eq (v : Byte) (f : Flags) : setZN v f = flagsZN v f := by
  simp only [setZN, flagsZN, getLsbD_seven]
  congr 1

theorem updateZN_eq (s : State) (v : Byte) : s.updateZN v = s.setFlags (flagsZN v s.flags) := by
  rw [State.updateZN, setZN_eq]

theorem adcResult_toNat (a m : Byte) (c : Bool) : (adcResult a m c).toNat = (a.toNat + m.toNat + c.toNat) % 256 := by
  simp [adcResult, adcSum]

theorem toNat_bool_le (c : Bool) : c.toNat ≤ 1 := by cases c <;> simp

/-- The signed value of a byte by its top bit. -/
theorem toInt_byte (v : Byte) : v.toInt = if v.toNat ≥ 128 then (v.toNat : Int) - 256 else v.toNat := by
  have h := v.isLt
  rw [BitVec.toInt_eq_toNat_cond]
  split <;> split <;> omega

/-- ADC's overflow formula says that the signed sum leaves −128..127 (R151, "equivalent to"). -/
theorem adc_overflow (a m : Byte) (c : Bool) :
    (~~~(a ^^^ m) &&& (a ^^^ adcResult a m c)).getLsbD 7 =
      decide (a.toInt + m.toInt + (c.toNat : Int) < -128 ∨ 127 < a.toInt + m.toInt + (c.toNat : Int)) := by
  rw [BitVec.getLsbD_and, BitVec.getLsbD_not, BitVec.getLsbD_xor, BitVec.getLsbD_xor]
  simp only [getLsbD_seven, adcResult_toNat, toInt_byte]
  have h1 := a.isLt
  have h2 := m.isLt
  have h3 := toNat_bool_le c
  by_cases hx : a.toNat ≥ 128 <;> by_cases hy : m.toNat ≥ 128 <;>
    by_cases hz : (a.toNat + m.toNat + c.toNat) % 256 ≥ 128 <;> simp [hx, hy, hz] <;> omega

theorem sbcResult_toNat (a m : Byte) (c : Bool) :
    ((sbcResult a m c).toNat : Int) = ((a.toNat : Int) - m.toNat - (1 - (c.toNat : Int))) % 256 := by
  simp only [sbcResult, sbcDiff, BitVec.toNat_ofInt]
  omega

/-- SBC's overflow formula says that the signed difference leaves −128..127 (R152, "equivalent to"). -/
theorem sbc_overflow (a m : Byte) (c : Bool) :
    ((a ^^^ m) &&& (a ^^^ sbcResult a m c)).getLsbD 7 =
      decide (a.toInt - m.toInt - (1 - (c.toNat : Int)) < -128 ∨ 127 < a.toInt - m.toInt - (1 - (c.toNat : Int))) := by
  rw [BitVec.getLsbD_and, BitVec.getLsbD_xor, BitVec.getLsbD_xor]
  have hr := sbcResult_toNat a m c
  simp only [getLsbD_seven, toInt_byte]
  have h1 := a.isLt
  have h2 := m.isLt
  have h3 := toNat_bool_le c
  by_cases hx : a.toNat ≥ 128 <;> by_cases hy : m.toNat ≥ 128 <;>
    by_cases hz : (sbcResult a m c).toNat ≥ 128 <;> simp [hx, hy, hz] <;> omega

/-- The flags ADC leaves (R151). -/
theorem adcFlags_eq (a m : Byte) (f : Flags) :
    adcFlags a m f =
      { flagsCZN (decide (a.toNat + m.toNat + f.c.toNat > 255)) (adcResult a m f.c) f with
        v := decide (a.toInt + m.toInt + (f.c.toNat : Int) < -128 ∨ 127 < a.toInt + m.toInt + (f.c.toNat : Int)) } := by
  rw [adcFlags, setZN_eq, adc_overflow]
  rfl

/-- The flags SBC leaves (R152). -/
theorem sbcFlags_eq (a m : Byte) (f : Flags) :
    sbcFlags a m f =
      { flagsCZN (decide ((a.toNat : Int) - m.toNat - (1 - (f.c.toNat : Int)) ≥ 0)) (sbcResult a m f.c) f with
        v := decide (a.toInt - m.toInt - (1 - (f.c.toNat : Int)) < -128 ∨ 127 < a.toInt - m.toInt - (1 - (f.c.toNat : Int))) } := by
  rw [sbcFlags, setZN_eq, sbc_overflow]
  rfl

/-- The flags a compare leaves (R180). -/
theorem compareFlags_eq (r m : Byte) (f : Flags) :
    compareFlags r m f =
      { f with
        c := decide (m.toNat ≤ r.toNat)
        z := decide (r.toNat = m.toNat)
        n := decide ((r.toNat + 256 - m.toNat) % 256 ≥ 128) } := by
  have h1 := r.isLt
  have h2 := m.isLt
  have : (BitVec.ofInt 8 ((r.toNat : Int) - (m.toNat : Int))).toNat = (r.toNat + 256 - m.toNat) % 256 := by
    rw [BitVec.toNat_ofInt]
    omega
  simp only [compareFlags, getLsbD_seven, this, BitVec.toNat_inj]

/-- The flags BIT leaves (R184). -/
theorem bitFlags_eq (a m : Byte) (f : Flags) :
    bitFlags a m f =
      { f with z := decide (m &&& a = 0), n := decide (m.toNat ≥ 128), v := decide (m.toNat / 64 % 2 = 1) } := by
  have : m.getLsbD 6 = decide (m.toNat / 64 % 2 = 1) := by
    rw [Bool.eq_iff_iff]
    simp [BitVec.getLsbD, Nat.testBit, Nat.shiftRight_eq_div_pow]
  simp only [bitFlags, getLsbD_seven, this]
  congr 1

/-- A flag as a bit of a byte. -/
theorem flagBit_toNat (b : Bool) {k : Nat} (h : k < 8) : (flagBit b k).toNat = if b then 2 ^ k else 0 := by
  revert h k
  decide +revert

/-! Shifts, rotates, increments and decrements as arithmetic on numbers. -/

theorem aslOp_eq (m : Byte) (f : Flags) :
    aslOp m f = (BitVec.ofNat 8 (2 * m.toNat), flagsCZN (decide (m.toNat ≥ 128)) (BitVec.ofNat 8 (2 * m.toNat)) f) := by
  have : m <<< 1 = BitVec.ofNat 8 (2 * m.toNat) := by
    apply BitVec.eq_of_toNat_eq
    rw [BitVec.toNat_shiftLeft, BitVec.toNat_ofNat, Nat.shiftLeft_eq]
    omega
  simp only [aslOp, setZN_eq, this, flagsCZN, flagsZN, getLsbD_seven]

/-- A carry into bit 0 of an even byte is an addition. -/
theorem shiftLeft_or_carry (m : Byte) (c : Bool) : (m <<< 1) ||| flagBit c 0 = BitVec.ofNat 8 (2 * m.toNat + c.toNat) := by
  revert m
  cases c <;> decide

/-- A carry into bit 7 of a halved byte is an addition. -/
theorem shiftRight_or_carry (m : Byte) (c : Bool) :
    (m >>> 1) ||| flagBit c 7 = BitVec.ofNat 8 (m.toNat / 2 + 128 * c.toNat) := by
  revert m
  cases c <;> decide

theorem rolOp_eq (m : Byte) (f : Flags) :
    rolOp m f =
      (BitVec.ofNat 8 (2 * m.toNat + f.c.toNat),
        flagsCZN (decide (m.toNat ≥ 128)) (BitVec.ofNat 8 (2 * m.toNat + f.c.toNat)) f) := by
  simp only [rolOp, shiftLeft_or_carry, setZN_eq, flagsCZN, flagsZN, getLsbD_seven]

theorem getLsbD_zero (m : Byte) : m.getLsbD 0 = decide (m.toNat % 2 = 1) := by
  rw [Bool.eq_iff_iff]
  simp [BitVec.getLsbD]

theorem lsrOp_eq (m : Byte) (f : Flags) :
    lsrOp m f = (BitVec.ofNat 8 (m.toNat / 2), flagsCZN (decide (m.toNat % 2 = 1)) (BitVec.ofNat 8 (m.toNat / 2)) f) := by
  have : m >>> 1 = BitVec.ofNat 8 (m.toNat / 2) := by
    apply BitVec.eq_of_toNat_eq
    rw [BitVec.toNat_ushiftRight, BitVec.toNat_ofNat, Nat.shiftRight_eq_div_pow]
    omega
  simp only [lsrOp, setZN_eq, this, flagsCZN, flagsZN, getLsbD_zero]

theorem rorOp_eq (m : Byte) (f : Flags) :
    rorOp m f =
      (BitVec.ofNat 8 (m.toNat / 2 + 128 * f.c.toNat),
        flagsCZN (decide (m.toNat % 2 = 1)) (BitVec.ofNat 8 (m.toNat / 2 + 128 * f.c.toNat)) f) := by
  simp only [rorOp, shiftRight_or_carry, setZN_eq, flagsCZN, flagsZN, getLsbD_zero]

theorem incOp_eq (m : Byte) (f : Flags) :
    incOp m f = (BitVec.ofNat 8 (m.toNat + 1), flagsZN (BitVec.ofNat 8 (m.toNat + 1)) f) := by
  have : m + 1 = BitVec.ofNat 8 (m.toNat + 1) := by
    apply BitVec.eq_of_toNat_eq
    simp
  simp only [incOp, setZN_eq, this]

theorem decOp_eq (m : Byte) (f : Flags) :
    decOp m f = (BitVec.ofNat 8 (m.toNat + 255), flagsZN (BitVec.ofNat 8 (m.toNat + 255)) f) := by
  have : m - 1 = BitVec.ofNat 8 (m.toNat + 255) := by
    apply BitVec.eq_of_toNat_eq
    rw [BitVec.toNat_sub, BitVec.toNat_ofNat, show (1 : Byte).toNat = 1 from rfl]
    omega
  simp only [decOp, setZN_eq, this]

end Sys2Proof.Machine
end

