-- ==== Sys2Proof/Laws/Memory.lean ====
section
/-! SUPPORT. Memory: a read after a write, and the canonical form (rule R85 for RAM). -/

namespace Sys2Proof.Machine

theorem Memory.wfFrom_cons {lo k : Nat} {v : Byte} {m : Memory} :
    Memory.wfFrom lo ((k, v) :: m) = true ↔
      lo ≤ k ∧ k < 65536 ∧ v ≠ Memory.unlisted ∧ Memory.wfFrom (k + 1) m = true := by
  simp [Memory.wfFrom, and_assoc]

theorem Memory.wfFrom_mono {lo lo' : Nat} (h : lo' ≤ lo) : ∀ {m : Memory}, m.wfFrom lo = true → m.wfFrom lo' = true
  | [], _ => rfl
  | (k, v) :: m, hw => by
    rw [Memory.wfFrom_cons] at hw ⊢
    exact ⟨h.trans hw.1, hw.2⟩

/-- An address below every listed one reads as `unlisted`. -/
theorem Memory.read_below {lo a : Nat} (h : a < lo) : ∀ {m : Memory}, m.wfFrom lo = true → m.read a = Memory.unlisted
  | [], _ => rfl
  | (k, v) :: m, hw => by
    rw [Memory.wfFrom_cons] at hw
    simp only [Memory.read]
    rw [if_neg (by omega)]
    exact Memory.read_below (by omega) hw.2.2.2

/-- Writing keeps the canonical form. -/
theorem Memory.write_wfFrom {lo a : Nat} {v : Byte} (ha : a < 65536) (hlo : lo ≤ a) :
    ∀ {m : Memory}, m.wfFrom lo = true → (m.write a v).wfFrom lo = true
  | [], _ => by
    unfold Memory.write
    split
    · rfl
    · exact Memory.wfFrom_cons.2 ⟨hlo, ha, ‹_›, rfl⟩
  | (k, w) :: m, hw => by
    have h := Memory.wfFrom_cons.1 hw
    unfold Memory.write
    split
    · split
      · exact hw
      · exact Memory.wfFrom_cons.2 ⟨hlo, ha, ‹_›, Memory.wfFrom_cons.2 ⟨by omega, h.2⟩⟩
    · split
      · split
        · exact Memory.wfFrom_mono (by omega) h.2.2.2
        · subst a
          exact Memory.wfFrom_cons.2 ⟨hlo, ha, ‹_›, h.2.2.2⟩
      · exact Memory.wfFrom_cons.2 ⟨h.1, h.2.1, h.2.2.1, Memory.write_wfFrom ha (by omega) h.2.2.2⟩

theorem Memory.write_wf {m : Memory} {a : Nat} {v : Byte} (ha : a < 65536) (hw : m.wf = true) : (m.write a v).wf = true :=
  Memory.write_wfFrom ha (Nat.zero_le a) hw

/-- A read of the address just written gives the value written. -/
theorem Memory.read_write_sameFrom {lo a : Nat} {v : Byte} : ∀ {m : Memory}, m.wfFrom lo = true → (m.write a v).read a = v
  | [], _ => by
    unfold Memory.write
    split
    · subst v
      rfl
    · simp [Memory.read]
  | (k, w) :: m, hw => by
    have h := Memory.wfFrom_cons.1 hw
    unfold Memory.write
    split
    · split
      · subst v
        exact Memory.read_below (lo := k) (by omega) (Memory.wfFrom_cons.2 ⟨le_rfl, h.2⟩)
      · simp [Memory.read]
    · split
      · split
        · subst v
          exact Memory.read_below (by omega) h.2.2.2
        · simp [Memory.read]
      · simp only [Memory.read]
        rw [if_neg (by omega)]
        exact Memory.read_write_sameFrom h.2.2.2

theorem Memory.read_write_same {m : Memory} {a : Nat} {v : Byte} (hw : m.wf = true) : (m.write a v).read a = v :=
  Memory.read_write_sameFrom hw

/-- A write leaves every other address as it was, in any form of memory. -/
theorem Memory.read_write_other {a b : Nat} {v : Byte} (h : b ≠ a) : ∀ {m : Memory}, (m.write a v).read b = m.read b
  | [] => by
    unfold Memory.write
    split <;> simp [Memory.read, Ne.symm h]
  | (k, w) :: m => by
    unfold Memory.write
    split
    · split
      · rfl
      · simp [Memory.read, Ne.symm h]
    · split
      · subst k
        split <;> simp [Memory.read, Ne.symm h]
      · simp only [Memory.read, Memory.read_write_other h]

/-- Memory right after reset is canonical. -/
theorem reset_mem_wf : State.reset.mem.wf = true := rfl

/-- Equal canonical memories are equal lists: the form has one list for each function from addresses to bytes. -/
theorem Memory.ext_of_read {lo : Nat} : ∀ {m m' : Memory}, m.wfFrom lo = true → m'.wfFrom lo = true →
    (∀ a, m.read a = m'.read a) → m = m'
  | [], [], _, _, _ => rfl
  | [], (k, v) :: m', _, hw', h => by
    have h' := Memory.wfFrom_cons.1 hw'
    have hk := h k
    simp only [Memory.read, if_true] at hk
    exact absurd hk.symm h'.2.2.1
  | (k, v) :: m, [], hw, _, h => by
    have h' := Memory.wfFrom_cons.1 hw
    have hk := h k
    simp only [Memory.read, if_true] at hk
    exact absurd hk h'.2.2.1
  | (k, v) :: m, (k', v') :: m', hw, hw', h => by
    have h1 := Memory.wfFrom_cons.1 hw
    have h2 := Memory.wfFrom_cons.1 hw'
    have hk : k = k' := by
      rcases Nat.lt_trichotomy k k' with hlt | heq | hgt
      · have := h k
        rw [Memory.read_below hlt (Memory.wfFrom_cons.2 ⟨le_rfl, h2.2⟩)] at this
        simp only [Memory.read, if_true] at this
        exact absurd this h1.2.2.1
      · exact heq
      · have := h k'
        rw [Memory.read_below hgt (Memory.wfFrom_cons.2 ⟨le_rfl, h1.2⟩)] at this
        simp only [Memory.read, if_true] at this
        exact absurd this.symm h2.2.2.1
    subst hk
    have hv : v = v' := by simpa [Memory.read] using h k
    subst hv
    have : m = m' := by
      refine Memory.ext_of_read h1.2.2.2 h2.2.2.2 fun a => ?_
      by_cases ha : k = a
      · subst ha
        rw [Memory.read_below (Nat.lt_succ_self k) h1.2.2.2, Memory.read_below (Nat.lt_succ_self k) h2.2.2.2]
      · simpa [Memory.read, ha] using h a
    rw [this]

end Sys2Proof.Machine
end

