-- ==== Sys2Proof/Laws/Operands.lean ====
section
/-! SUPPORT. What the shared operations give: the value, and each field after it. Reads change the history alone; a push changes memory, the history and SP; a pull SP and the history. -/

namespace Sys2Proof.Machine

@[simp] theorem read16_fst (lo hi : Word) (s : State) :
    (read16 lo hi s).1 = joinBytes (busValue hi (afterRead lo s)) (busValue lo s) := rfl
@[simp] theorem read16_snd (lo hi : Word) (s : State) : (read16 lo hi s).2 = afterRead hi (afterRead lo s) := rfl
@[simp] theorem fetch8_fst (s : State) : (fetch8 s).1 = busValue s.pc s := rfl
@[simp] theorem fetch8_snd (s : State) : (fetch8 s).2 = (afterRead s.pc s).setPc (s.pc + 1) := rfl
@[simp] theorem fetch16_fst (s : State) : (fetch16 s).1 = (read16 s.pc (s.pc + 1) s).1 := rfl
@[simp] theorem fetch16_snd (s : State) : (fetch16 s).2 = (read16 s.pc (s.pc + 1) s).2.setPc (s.pc + 2) := rfl
@[simp] theorem pull_fst (s : State) : (pull s).1 = busValue (stackAddr (s.sp + 1)) s := rfl
@[simp] theorem pull_snd (s : State) : (pull s).2 = (afterRead (stackAddr (s.sp + 1)) s).setSp (s.sp + 1) := rfl
theorem push_eq (v : Byte) (s : State) : push v s = (memWrite (stackAddr s.sp) v s).setSp (s.sp - 1) := rfl

/-- A plain byte of the bus is the byte of memory (R85). -/
theorem busValue_of_plain {a : Word} {s : State} (h : kindAt s.busMap a.toNat ≠ .device) : busValue a s = s.mem.read a.toNat :=
  if_neg h

/-- What the bus answers depends on the map, the devices, the accesses so far and memory alone. -/
theorem busValue_congr {a : Word} {s t : State} (hb : t.busMap = s.busMap) (hd : t.devicesTouched = s.devicesTouched)
    (hh : t.busHistory = s.busHistory) (hm : t.mem.read a.toNat = s.mem.read a.toNat) : busValue a t = busValue a s := by
  simp only [busValue, hb, hd, hh, hm]

@[simp] theorem resolve_st_pc (a : Addr) (s : State) : (resolve a s).st.pc = s.pc := by cases a <;> rfl
@[simp] theorem resolve_st_sp (a : Addr) (s : State) : (resolve a s).st.sp = s.sp := by cases a <;> rfl
@[simp] theorem resolve_st_a (a : Addr) (s : State) : (resolve a s).st.a = s.a := by cases a <;> rfl
@[simp] theorem resolve_st_x (a : Addr) (s : State) : (resolve a s).st.x = s.x := by cases a <;> rfl
@[simp] theorem resolve_st_y (a : Addr) (s : State) : (resolve a s).st.y = s.y := by cases a <;> rfl
@[simp] theorem resolve_st_flags (a : Addr) (s : State) : (resolve a s).st.flags = s.flags := by cases a <;> rfl
@[simp] theorem resolve_st_cyc (a : Addr) (s : State) : (resolve a s).st.cyc = s.cyc := by cases a <;> rfl
@[simp] theorem resolve_st_nmiLatch (a : Addr) (s : State) : (resolve a s).st.nmiLatch = s.nmiLatch := by cases a <;> rfl
@[simp] theorem resolve_st_irqLine (a : Addr) (s : State) : (resolve a s).st.irqLine = s.irqLine := by cases a <;> rfl
@[simp] theorem resolve_st_mem (a : Addr) (s : State) : (resolve a s).st.mem = s.mem := by cases a <;> rfl
@[simp] theorem resolve_st_busMap (a : Addr) (s : State) : (resolve a s).st.busMap = s.busMap := by cases a <;> rfl
@[simp] theorem resolve_st_devicesTouched (a : Addr) (s : State) : (resolve a s).st.devicesTouched = s.devicesTouched := by cases a <;> rfl
@[simp] theorem resolve_st_traceLog (a : Addr) (s : State) : (resolve a s).st.traceLog = s.traceLog := by cases a <;> rfl
@[simp] theorem resolve_st_diagLog (a : Addr) (s : State) : (resolve a s).st.diagLog = s.diagLog := by cases a <;> rfl
@[simp] theorem resolve_st_config (a : Addr) (s : State) : (resolve a s).st.config = s.config := by cases a <;> rfl
@[simp] theorem resolve_st_phase (a : Addr) (s : State) : (resolve a s).st.phase = s.phase := by cases a <;> rfl
@[simp] theorem resolve_st_schedule (a : Addr) (s : State) : (resolve a s).st.schedule = s.schedule := by cases a <;> rfl

@[simp] theorem readSource_st_pc (src : Source) (s : State) : (readSource src s).st.pc = s.pc := by
  cases src <;> simp [readSource]
@[simp] theorem readSource_st_sp (src : Source) (s : State) : (readSource src s).st.sp = s.sp := by
  cases src <;> simp [readSource]
@[simp] theorem readSource_st_a (src : Source) (s : State) : (readSource src s).st.a = s.a := by
  cases src <;> simp [readSource]
@[simp] theorem readSource_st_x (src : Source) (s : State) : (readSource src s).st.x = s.x := by
  cases src <;> simp [readSource]
@[simp] theorem readSource_st_y (src : Source) (s : State) : (readSource src s).st.y = s.y := by
  cases src <;> simp [readSource]
@[simp] theorem readSource_st_flags (src : Source) (s : State) : (readSource src s).st.flags = s.flags := by
  cases src <;> simp [readSource]
@[simp] theorem readSource_st_cyc (src : Source) (s : State) : (readSource src s).st.cyc = s.cyc := by
  cases src <;> simp [readSource]
@[simp] theorem readSource_st_nmiLatch (src : Source) (s : State) : (readSource src s).st.nmiLatch = s.nmiLatch := by
  cases src <;> simp [readSource]
@[simp] theorem readSource_st_irqLine (src : Source) (s : State) : (readSource src s).st.irqLine = s.irqLine := by
  cases src <;> simp [readSource]
@[simp] theorem readSource_st_mem (src : Source) (s : State) : (readSource src s).st.mem = s.mem := by
  cases src <;> simp [readSource]
@[simp] theorem readSource_st_busMap (src : Source) (s : State) : (readSource src s).st.busMap = s.busMap := by
  cases src <;> simp [readSource]
@[simp] theorem readSource_st_devicesTouched (src : Source) (s : State) : (readSource src s).st.devicesTouched = s.devicesTouched := by
  cases src <;> simp [readSource]
@[simp] theorem readSource_st_traceLog (src : Source) (s : State) : (readSource src s).st.traceLog = s.traceLog := by
  cases src <;> simp [readSource]
@[simp] theorem readSource_st_diagLog (src : Source) (s : State) : (readSource src s).st.diagLog = s.diagLog := by
  cases src <;> simp [readSource]
@[simp] theorem readSource_st_config (src : Source) (s : State) : (readSource src s).st.config = s.config := by
  cases src <;> simp [readSource]
@[simp] theorem readSource_st_phase (src : Source) (s : State) : (readSource src s).st.phase = s.phase := by
  cases src <;> simp [readSource]
@[simp] theorem readSource_st_schedule (src : Source) (s : State) : (readSource src s).st.schedule = s.schedule := by
  cases src <;> simp [readSource]

@[simp] theorem resolveInd_st_pc (w : Word) (s : State) : (resolveInd w s).st.pc = s.pc := rfl
@[simp] theorem resolveInd_st_sp (w : Word) (s : State) : (resolveInd w s).st.sp = s.sp := rfl
@[simp] theorem resolveInd_st_a (w : Word) (s : State) : (resolveInd w s).st.a = s.a := rfl
@[simp] theorem resolveInd_st_x (w : Word) (s : State) : (resolveInd w s).st.x = s.x := rfl
@[simp] theorem resolveInd_st_y (w : Word) (s : State) : (resolveInd w s).st.y = s.y := rfl
@[simp] theorem resolveInd_st_flags (w : Word) (s : State) : (resolveInd w s).st.flags = s.flags := rfl
@[simp] theorem resolveInd_st_cyc (w : Word) (s : State) : (resolveInd w s).st.cyc = s.cyc := rfl
@[simp] theorem resolveInd_st_nmiLatch (w : Word) (s : State) : (resolveInd w s).st.nmiLatch = s.nmiLatch := rfl
@[simp] theorem resolveInd_st_irqLine (w : Word) (s : State) : (resolveInd w s).st.irqLine = s.irqLine := rfl
@[simp] theorem resolveInd_st_mem (w : Word) (s : State) : (resolveInd w s).st.mem = s.mem := rfl
@[simp] theorem resolveInd_st_busMap (w : Word) (s : State) : (resolveInd w s).st.busMap = s.busMap := rfl
@[simp] theorem resolveInd_st_devicesTouched (w : Word) (s : State) : (resolveInd w s).st.devicesTouched = s.devicesTouched := rfl
@[simp] theorem resolveInd_st_traceLog (w : Word) (s : State) : (resolveInd w s).st.traceLog = s.traceLog := rfl
@[simp] theorem resolveInd_st_diagLog (w : Word) (s : State) : (resolveInd w s).st.diagLog = s.diagLog := rfl
@[simp] theorem resolveInd_st_config (w : Word) (s : State) : (resolveInd w s).st.config = s.config := rfl
@[simp] theorem resolveInd_st_phase (w : Word) (s : State) : (resolveInd w s).st.phase = s.phase := rfl
@[simp] theorem resolveInd_st_schedule (w : Word) (s : State) : (resolveInd w s).st.schedule = s.schedule := rfl

/-- The one lemma of an interrupt entry: the state it leaves (R245). -/
theorem enterInterrupt_eq (b4 : Bool) (vector : Word) (s : State) :
    enterInterrupt b4 vector s =
      let u := push (pack b4 { s.flags with b := b4 }) (push (loByte s.pc) (push (hiByte s.pc)
        (s.setFlags { s.flags with b := b4 })))
      (((u.setFlags { s.flags with b := b4, i := true }) |> read16 vector (vector + 1)).2.setPc
        ((u.setFlags { s.flags with b := b4, i := true }) |> read16 vector (vector + 1)).1) := rfl

/-- The stored B is no part of the packed byte: bit 4 is the packer's (R40). -/
@[simp] theorem pack_withB (b4 b : Bool) (f : Flags) : pack b4 { f with b := b } = pack b4 f := rfl

/-- How a read of an operand ends: the finishing state of `readClass` (R113, R114). -/
theorem readClass_eq (effect : Byte → State → State) (src : Source) (base : Nat) (s : State) :
    readClass effect src base s =
      .next ((effect (readSource src s).value (readSource src s).st).charge (base + (readSource src s).crossed.toNat)) := rfl

/-- How a store ends (R113). -/
theorem store_eq (v : Byte) (a : Addr) (base : Nat) (s : State) :
    store v a base s = .next ((memWrite (resolve a s).ea v (resolve a s).st).charge base) := rfl

/-- How a read-modify-write of A ends (R160). -/
theorem modify_acc (op : Byte → Flags → Byte × Flags) (base : Nat) (s : State) :
    modify op .acc base s = .next (((s.setA (op s.a s.flags).1).setFlags (op s.a s.flags).2).charge base) := rfl

/-- How a read-modify-write of memory ends (R160). -/
theorem modify_mem (op : Byte → Flags → Byte × Flags) (a : Addr) (base : Nat) (s : State) :
    modify op (.mem a) base s =
      let q := op (busValue (resolve a s).ea (resolve a s).st) s.flags
      .next (((memWrite (resolve a s).ea q.1 (afterRead (resolve a s).ea (resolve a s).st)).setFlags q.2).charge base) := by
  simp only [modify, memRead_fst, memRead_snd, afterRead_flags, resolve_st_flags, finish]

/-- How a branch ends (R190). -/
theorem branch_eq (c : Bool) (d : Byte) (base : Nat) (s : State) :
    branch c d base s =
      .next (if c then (s.setPc (resolveRel d s).ea).charge (base + 1 + (resolveRel d s).crossed.toNat) else s.charge base) := by
  cases c <;> rfl

end Sys2Proof.Machine
end

