-- ==== Sys2Proof/Laws/Addresses.lean ====
section
/-! SUPPORT. Bytes, words and pages as numbers (R8, R9, R73), and where a store lands (R71). -/

namespace Sys2Proof.Machine

open Sys2Proof.Safety

theorem hiByte_toNat (w : Word) : (hiByte w).toNat = w.toNat / 256 := by
  have := w.isLt
  simp only [hiByte, BitVec.extractLsb'_toNat, Nat.shiftRight_eq_div_pow]
  omega

theorem loByte_toNat (w : Word) : (loByte w).toNat = w.toNat % 256 := by
  simp [loByte, BitVec.extractLsb'_toNat]

theorem joinBytes_toNat (h l : Byte) : (joinBytes h l).toNat = l.toNat + 256 * h.toNat := by
  have := l.isLt
  show (h ++ l : BitVec (8 + 8)).toNat = _
  rw [BitVec.toNat_append, ← Nat.shiftLeft_add_eq_or_of_lt (by simpa using this), Nat.shiftLeft_eq]
  omega

/-- A word is its two bytes joined. -/
theorem joinBytes_hi_lo (w : Word) : joinBytes (hiByte w) (loByte w) = w := by
  apply BitVec.eq_of_toNat_eq
  rw [joinBytes_toNat, hiByte_toNat, loByte_toNat]
  omega

theorem hiByte_joinBytes (h l : Byte) : hiByte (joinBytes h l) = h := by
  have := l.isLt
  apply BitVec.eq_of_toNat_eq
  rw [hiByte_toNat, joinBytes_toNat]
  omega

theorem loByte_joinBytes (h l : Byte) : loByte (joinBytes h l) = l := by
  have := l.isLt
  apply BitVec.eq_of_toNat_eq
  rw [loByte_toNat, joinBytes_toNat]
  omega

theorem pageCrossed_iff (a b : Word) : pageCrossed a b = true ↔ b.toNat / 256 ≠ a.toNat / 256 := by
  rw [← hiByte_toNat, ← hiByte_toNat, ne_eq, BitVec.toNat_inj]
  simp only [pageCrossed, bne_iff_ne, ne_eq]
  exact not_congr eq_comm

theorem zeroPage_toNat (z : Byte) : (zeroPage z).toNat = z.toNat := by
  have := z.isLt
  simp only [zeroPage, BitVec.toNat_setWidth]
  omega

theorem zeroPage_eq_of_toNat {z : Byte} {w : Word} (h : w.toNat = z.toNat) : zeroPage z = w := by
  apply BitVec.eq_of_toNat_eq
  rw [zeroPage_toNat, h]

theorem add_index_toNat (w : Word) (v : Byte) : (w + v.setWidth 16).toNat = (w.toNat + v.toNat) % 65536 := by
  have := v.isLt
  simp only [BitVec.toNat_add, BitVec.toNat_setWidth]
  omega

/-- The address of the pointer's high byte in an indirect JMP: the successor within the page (R110). -/
theorem pointerHigh_eq (p : Word) :
    ((p &&& 0xFF00) ||| ((p + 1) &&& 0x00FF)) = joinBytes (hiByte p) (loByte (p + 1)) := by
  apply BitVec.eq_of_getLsbD_eq
  intro i hi
  rw [show joinBytes (hiByte p) (loByte (p + 1)) = (hiByte p ++ loByte (p + 1) : BitVec (8 + 8)) from rfl,
    BitVec.getLsbD_append, BitVec.getLsbD_or, BitVec.getLsbD_and, BitVec.getLsbD_and]
  simp only [hiByte, loByte, BitVec.getLsbD_extractLsb']
  interval_cases i <;> simp

/-- Adding a sign-extended displacement (R111). -/
theorem add_displacement_toNat (d : Byte) (p : Word) :
    (((p + d.signExtend 16).toNat : Nat) : Int) = ((p.toNat : Int) + d.toInt) % 65536 := by
  have h2 : (d.signExtend 16).toInt = d.toInt := BitVec.toInt_signExtend_of_le (by omega)
  have h3 := BitVec.toInt_eq_toNat_cond (d.signExtend 16)
  rw [← h2, BitVec.toNat_add, h3]
  have := (d.signExtend 16).isLt
  have := p.isLt
  split <;> omega

/-- The stack byte lies in page 1 (R34). -/
theorem stackAddr_toNat (sp : Byte) : (stackAddr sp).toNat = 256 + sp.toNat := by
  revert sp
  decide

theorem stackAddr_inj {p q : Byte} : stackAddr p = stackAddr q ↔ p = q := by
  rw [← BitVec.toNat_inj, stackAddr_toNat, stackAddr_toNat, ← BitVec.toNat_inj]
  omega

/-- A bus write stores one byte, from canonical memory (R71, R85, R88). -/
theorem storesByte_memWrite {s t : State} {ea : Word} {v : Byte} (hw : s.mem.wf = true) (h : t.mem = (memWrite ea v s).mem) :
    StoresByte s t ea v := by
  refine ⟨fun hk => ?_, fun hk => ?_, fun a ha => ?_⟩ <;> rw [h, memWrite_mem]
  · rw [if_pos hk, Memory.read_write_same hw]
  · rw [if_neg hk]
  · split
    · rw [Memory.read_write_other ha]
    · rfl

/-- Everything a read-modify-write does: its operation's result and flags, by one read and one write (R113, R160). -/
theorem modify_rewrites (op : Byte → Flags → Byte × Flags) (tg : Target) (base : Nat) (s : State) (hw : s.mem.wf = true) :
    ∃ t, modify op tg base s = .next t ∧ t.flags = (op (targetValue tg s) s.flags).2 ∧
      Rewrites s t tg (op (targetValue tg s) s.flags).1 base := by
  cases tg with
  | acc => exact ⟨_, rfl, rfl, rfl, rfl, rfl, rfl, ⟨rfl, rfl, rfl, rfl, rfl, rfl, rfl, rfl, rfl⟩, rfl, rfl, fun _ => rfl, rfl⟩
  | mem a =>
    refine ⟨_, modify_mem .., rfl, by simp, by simp, by simp, by simp, by simp [SameOutside], rfl, by simp, ?_, ?_⟩
    · exact storesByte_memWrite hw (by simp [targetValue])
    · simp [targetValue, busValue]

end Sys2Proof.Machine
end

