-- ==== Sys2Proof/Laws/Bus.lean ====
section
/-! SUPPORT. Once for all shared operations: each only appends bus events that account for its memory, keeps the canonical form,
and touches nothing outside the core (rules R79, R84, R85). -/

namespace Sys2Proof.Machine

open Sys2Proof.Safety

/-- `t` follows from `s` by bus accesses and register writes alone. -/
structure BusStep (s t : State) : Prop where
  outside : SameOutside s t
  accounted : ∃ es : List BusEvent, t.busHistory = es.reverse ++ s.busHistory ∧ replay s.busMap es s.mem = some t.mem
  wf : s.mem.wf = true → t.mem.wf = true

theorem replay_append {map : List Region} {fs : List BusEvent} {m' : Memory} :
    ∀ {es : List BusEvent} {m : Memory}, replay map es m = some m' → replay map (es ++ fs) m = replay map fs m'
  | [], m, h => by
    simp only [replay, Option.some.injEq] at h
    rw [List.nil_append, h]
  | .read a v :: es, m, h => by
    simp only [replay] at h
    split at h
    · simp only [List.cons_append, replay]
      rw [if_pos ‹_›, replay_append h]
    · cases h
  | .write a v :: es, m, h => by
    simp only [replay] at h
    simp only [List.cons_append, replay, replay_append h]

theorem sameOutside_refl (s : State) : SameOutside s s := ⟨rfl, rfl, rfl, rfl, rfl, rfl, rfl, rfl, rfl⟩

theorem sameOutside_trans {s t u : State} (h : SameOutside s t) (k : SameOutside t u) : SameOutside s u := by
  obtain ⟨h1, h2, h3, h4, h5, h6, h7, h8, h9⟩ := h
  obtain ⟨k1, k2, k3, k4, k5, k6, k7, k8, k9⟩ := k
  exact ⟨k1.trans h1, k2.trans h2, k3.trans h3, k4.trans h4, k5.trans h5, k6.trans h6, k7.trans h7, k8.trans h8, k9.trans h9⟩

/-- A change of registers, flags or the countdown alone. -/
theorem BusStep.of_eq {s t : State} (ho : SameOutside s t) (hm : t.mem = s.mem) (hh : t.busHistory = s.busHistory) :
    BusStep s t where
  outside := ho
  accounted := ⟨[], hh, by rw [hm]; rfl⟩
  wf h := hm ▸ h

theorem BusStep.refl (s : State) : BusStep s s := .of_eq (sameOutside_refl s) rfl rfl

theorem BusStep.trans {s t u : State} (h : BusStep s t) (k : BusStep t u) : BusStep s u where
  outside := sameOutside_trans h.outside k.outside
  accounted := by
    obtain ⟨es, h1, h2⟩ := h.accounted
    obtain ⟨fs, k1, k2⟩ := k.accounted
    rw [h.outside.2.2.2.1] at k2
    exact ⟨es ++ fs, by rw [k1, h1, List.reverse_append, List.append_assoc], by rw [replay_append h2, k2]⟩
  wf hw := k.wf (h.wf hw)

theorem busStep_setPc (s : State) (v : Word) : BusStep s (s.setPc v) := .of_eq (sameOutside_refl s) rfl rfl
theorem busStep_setSp (s : State) (v : Byte) : BusStep s (s.setSp v) := .of_eq (sameOutside_refl s) rfl rfl
theorem busStep_setA (s : State) (v : Byte) : BusStep s (s.setA v) := .of_eq (sameOutside_refl s) rfl rfl
theorem busStep_setX (s : State) (v : Byte) : BusStep s (s.setX v) := .of_eq (sameOutside_refl s) rfl rfl
theorem busStep_setY (s : State) (v : Byte) : BusStep s (s.setY v) := .of_eq (sameOutside_refl s) rfl rfl
theorem busStep_setFlags (s : State) (f : Flags) : BusStep s (s.setFlags f) := .of_eq (sameOutside_refl s) rfl rfl
theorem busStep_updateZN (s : State) (v : Byte) : BusStep s (s.updateZN v) := .of_eq (sameOutside_refl s) rfl rfl
theorem busStep_charge (s : State) (n : Nat) : BusStep s (s.charge n) := .of_eq (sameOutside_refl s) rfl rfl

theorem busStep_afterRead (a : Word) (s : State) : BusStep s (afterRead a s) where
  outside := sameOutside_refl s
  accounted := by
    refine ⟨[.read a (busValue a s)], rfl, ?_⟩
    simp only [replay, busValue]
    split <;> simp_all
  wf h := h

theorem busStep_memRead (a : Word) (s : State) : BusStep s (memRead a s).2 := busStep_afterRead a s

theorem busStep_memWrite (a : Word) (v : Byte) (s : State) : BusStep s (memWrite a v s) where
  outside := sameOutside_refl s
  accounted := ⟨[.write a v], rfl, rfl⟩
  wf h := by
    rw [memWrite_mem]
    split
    · exact Memory.write_wf a.isLt h
    · exact h

theorem busStep_read16 (lo hi : Word) (s : State) : BusStep s (read16 lo hi s).2 :=
  (busStep_memRead lo s).trans (busStep_memRead hi _)

theorem busStep_fetch8 (s : State) : BusStep s (fetch8 s).2 := (busStep_memRead s.pc s).trans (busStep_setPc _ _)

theorem busStep_fetch16 (s : State) : BusStep s (fetch16 s).2 := (busStep_read16 _ _ s).trans (busStep_setPc _ _)

theorem busStep_push (v : Byte) (s : State) : BusStep s (push v s) := (busStep_memWrite _ v s).trans (busStep_setSp _ _)

theorem busStep_pull (s : State) : BusStep s (pull s).2 := (busStep_setSp s _).trans (busStep_memRead _ _)

theorem busStep_enterInterrupt (b4 : Bool) (vector : Word) (s : State) : BusStep s (enterInterrupt b4 vector s) := by
  unfold enterInterrupt
  exact ((((((busStep_setFlags s _).trans (busStep_push _ _)).trans (busStep_push _ _)).trans (busStep_push _ _)).trans
    (busStep_setFlags _ _)).trans (busStep_read16 _ _ _)).trans (busStep_setPc _ _)

theorem busStep_returnFromInterrupt (s : State) : BusStep s (returnFromInterrupt s) := by
  unfold returnFromInterrupt
  exact ((((busStep_pull s).trans (busStep_setFlags _ _)).trans (busStep_pull _)).trans (busStep_pull _)).trans
    (busStep_setPc _ _)

theorem busStep_resolve (a : Addr) (s : State) : BusStep s (resolve a s).st := by
  cases a with
  | izx z => exact busStep_read16 _ _ s
  | izy z => exact busStep_read16 _ _ s
  | _ => exact .refl s

theorem busStep_resolveInd (w : Word) (s : State) : BusStep s (resolveInd w s).st := busStep_read16 _ _ s

theorem busStep_readSource (src : Source) (s : State) : BusStep s (readSource src s).st := by
  cases src with
  | imm v => exact .refl s
  | mem a => exact (busStep_resolve a s).trans (busStep_memRead _ _)

/-- A unit of work that finishes from `t` ends in a state that follows from `s`, if `t` does. -/
theorem busStep_finish {n : Nat} {s t u : State} (h : BusStep s t) (hf : finish n t = .next u) : BusStep s u := by
  cases hf
  exact h.trans (busStep_charge _ _)

theorem busStep_readClass {effect : Byte → State → State} (he : ∀ m s, BusStep s (effect m s)) {src : Source} {base : Nat}
    {s t : State} (h : readClass effect src base s = .next t) : BusStep s t :=
  busStep_finish ((busStep_readSource src s).trans (he _ _)) h

theorem busStep_store {v : Byte} {a : Addr} {base : Nat} {s t : State} (h : store v a base s = .next t) : BusStep s t :=
  busStep_finish ((busStep_resolve a s).trans (busStep_memWrite _ _ _)) h

theorem busStep_modify {op : Byte → Flags → Byte × Flags} {tg : Target} {base : Nat} {s t : State}
    (h : modify op tg base s = .next t) : BusStep s t := by
  cases tg with
  | acc => exact busStep_finish ((busStep_setA s _).trans (busStep_setFlags _ _)) h
  | mem a =>
    exact busStep_finish ((((busStep_resolve a s).trans (busStep_memRead _ _)).trans (busStep_memWrite _ _ _)).trans
      (busStep_setFlags _ _)) h

theorem busStep_branch {c : Bool} {d : Byte} {base : Nat} {s t : State} (h : branch c d base s = .next t) :
    BusStep s t := by
  unfold branch at h
  cases c
  · exact busStep_finish (.refl s) h
  · exact busStep_finish (busStep_setPc s _) h

end Sys2Proof.Machine
end

