-- ==== Sys2Proof/Laws/Decode.lean ====
section
/-! SUPPORT. The opcode table and the encoder agree row by row (R101, R115, R120): what a row builds has the row's opcode and
operand bytes, and every instruction is built by the row of its opcode. -/

namespace Sys2Proof

/-- The form builds this instruction from these operand bytes. -/
def Form.Builds (f : Form) (i : Instr) : Prop :=
  match f with
  | .bare j => j = i ∧ i.operand.bytes = []
  | .byte k => ∃ b, k b = i ∧ i.operand.bytes = [b] ∧ i.padding = 0
  | .word k => ∃ w, k w = i ∧ i.operand.bytes = [loByte w, hiByte w] ∧ i.padding = 0

/-- Everything the row's form can build has the row's opcode and the operand bytes it was built from. -/
def Row.Sound (r : Row) : Prop :=
  match r.form with
  | .bare i => i.opcode = r.opcode ∧ i.operand.bytes = []
  | .byte k => ∀ b, (k b).opcode = r.opcode ∧ (k b).operand.bytes = [b] ∧ (k b).padding = 0
  | .word k => ∀ w, (k w).opcode = r.opcode ∧ (k w).operand.bytes = [loByte w, hiByte w] ∧ (k w).padding = 0

theorem Row.Sound.bare {r : Row} {i : Instr} (h : r.Sound) (hf : r.form = .bare i) :
    i.opcode = r.opcode ∧ i.operand.bytes = [] := by
  unfold Row.Sound at h
  rw [hf] at h
  exact h

theorem Row.Sound.byte {r : Row} {k : Byte → Instr} (h : r.Sound) (hf : r.form = .byte k) (b : Byte) :
    (k b).opcode = r.opcode ∧ (k b).operand.bytes = [b] ∧ (k b).padding = 0 := by
  unfold Row.Sound at h
  rw [hf] at h
  exact h b

theorem Row.Sound.word {r : Row} {k : Word → Instr} (h : r.Sound) (hf : r.form = .word k) (w : Word) :
    (k w).opcode = r.opcode ∧ (k w).operand.bytes = [loByte w, hiByte w] ∧ (k w).padding = 0 := by
  unfold Row.Sound at h
  rw [hf] at h
  exact h w

theorem forall_mem_rows {p : Row → Prop} {r : Row} {rs : List Row} (h : p r) (hs : ∀ q ∈ rs, p q) : ∀ q ∈ r :: rs, p q :=
  List.forall_mem_cons.2 ⟨h, hs⟩

theorem rows_sound_0 : ∀ r ∈ opcodeRows 0x0, r.Sound :=
  forall_mem_rows (p := Row.Sound) (⟨rfl, rfl⟩) <|
  forall_mem_rows (p := Row.Sound) (fun _ => ⟨rfl, rfl, rfl⟩) <|
  forall_mem_rows (p := Row.Sound) (fun _ => ⟨rfl, rfl, rfl⟩) <|
  forall_mem_rows (p := Row.Sound) (fun _ => ⟨rfl, rfl, rfl⟩) <|
  forall_mem_rows (p := Row.Sound) (⟨rfl, rfl⟩) <|
  forall_mem_rows (p := Row.Sound) (fun _ => ⟨rfl, rfl, rfl⟩) <|
  forall_mem_rows (p := Row.Sound) (⟨rfl, rfl⟩) <|
  forall_mem_rows (p := Row.Sound) (fun _ => ⟨rfl, rfl, rfl⟩) <|
  forall_mem_rows (p := Row.Sound) (fun _ => ⟨rfl, rfl, rfl⟩) <|
  fun _ h => absurd h List.not_mem_nil

theorem rows_sound_1 : ∀ r ∈ opcodeRows 0x1, r.Sound :=
  forall_mem_rows (p := Row.Sound) (fun _ => ⟨rfl, rfl, rfl⟩) <|
  forall_mem_rows (p := Row.Sound) (fun _ => ⟨rfl, rfl, rfl⟩) <|
  forall_mem_rows (p := Row.Sound) (fun _ => ⟨rfl, rfl, rfl⟩) <|
  forall_mem_rows (p := Row.Sound) (fun _ => ⟨rfl, rfl, rfl⟩) <|
  forall_mem_rows (p := Row.Sound) (⟨rfl, rfl⟩) <|
  forall_mem_rows (p := Row.Sound) (fun _ => ⟨rfl, rfl, rfl⟩) <|
  forall_mem_rows (p := Row.Sound) (fun _ => ⟨rfl, rfl, rfl⟩) <|
  forall_mem_rows (p := Row.Sound) (fun _ => ⟨rfl, rfl, rfl⟩) <|
  fun _ h => absurd h List.not_mem_nil

theorem rows_sound_2 : ∀ r ∈ opcodeRows 0x2, r.Sound :=
  forall_mem_rows (p := Row.Sound) (fun _ => ⟨rfl, rfl, rfl⟩) <|
  forall_mem_rows (p := Row.Sound) (fun _ => ⟨rfl, rfl, rfl⟩) <|
  forall_mem_rows (p := Row.Sound) (fun _ => ⟨rfl, rfl, rfl⟩) <|
  forall_mem_rows (p := Row.Sound) (fun _ => ⟨rfl, rfl, rfl⟩) <|
  forall_mem_rows (p := Row.Sound) (fun _ => ⟨rfl, rfl, rfl⟩) <|
  forall_mem_rows (p := Row.Sound) (⟨rfl, rfl⟩) <|
  forall_mem_rows (p := Row.Sound) (fun _ => ⟨rfl, rfl, rfl⟩) <|
  forall_mem_rows (p := Row.Sound) (⟨rfl, rfl⟩) <|
  forall_mem_rows (p := Row.Sound) (fun _ => ⟨rfl, rfl, rfl⟩) <|
  forall_mem_rows (p := Row.Sound) (fun _ => ⟨rfl, rfl, rfl⟩) <|
  forall_mem_rows (p := Row.Sound) (fun _ => ⟨rfl, rfl, rfl⟩) <|
  fun _ h => absurd h List.not_mem_nil

theorem rows_sound_3 : ∀ r ∈ opcodeRows 0x3, r.Sound :=
  forall_mem_rows (p := Row.Sound) (fun _ => ⟨rfl, rfl, rfl⟩) <|
  forall_mem_rows (p := Row.Sound) (fun _ => ⟨rfl, rfl, rfl⟩) <|
  forall_mem_rows (p := Row.Sound) (fun _ => ⟨rfl, rfl, rfl⟩) <|
  forall_mem_rows (p := Row.Sound) (fun _ => ⟨rfl, rfl, rfl⟩) <|
  forall_mem_rows (p := Row.Sound) (⟨rfl, rfl⟩) <|
  forall_mem_rows (p := Row.Sound) (fun _ => ⟨rfl, rfl, rfl⟩) <|
  forall_mem_rows (p := Row.Sound) (fun _ => ⟨rfl, rfl, rfl⟩) <|
  forall_mem_rows (p := Row.Sound) (fun _ => ⟨rfl, rfl, rfl⟩) <|
  fun _ h => absurd h List.not_mem_nil

theorem rows_sound_4 : ∀ r ∈ opcodeRows 0x4, r.Sound :=
  forall_mem_rows (p := Row.Sound) (⟨rfl, rfl⟩) <|
  forall_mem_rows (p := Row.Sound) (fun _ => ⟨rfl, rfl, rfl⟩) <|
  forall_mem_rows (p := Row.Sound) (fun _ => ⟨rfl, rfl, rfl⟩) <|
  forall_mem_rows (p := Row.Sound) (fun _ => ⟨rfl, rfl, rfl⟩) <|
  forall_mem_rows (p := Row.Sound) (⟨rfl, rfl⟩) <|
  forall_mem_rows (p := Row.Sound) (fun _ => ⟨rfl, rfl, rfl⟩) <|
  forall_mem_rows (p := Row.Sound) (⟨rfl, rfl⟩) <|
  forall_mem_rows (p := Row.Sound) (fun _ => ⟨rfl, rfl, rfl⟩) <|
  forall_mem_rows (p := Row.Sound) (fun _ => ⟨rfl, rfl, rfl⟩) <|
  forall_mem_rows (p := Row.Sound) (fun _ => ⟨rfl, rfl, rfl⟩) <|
  fun _ h => absurd h List.not_mem_nil

theorem rows_sound_5 : ∀ r ∈ opcodeRows 0x5, r.Sound :=
  forall_mem_rows (p := Row.Sound) (fun _ => ⟨rfl, rfl, rfl⟩) <|
  forall_mem_rows (p := Row.Sound) (fun _ => ⟨rfl, rfl, rfl⟩) <|
  forall_mem_rows (p := Row.Sound) (fun _ => ⟨rfl, rfl, rfl⟩) <|
  forall_mem_rows (p := Row.Sound) (fun _ => ⟨rfl, rfl, rfl⟩) <|
  forall_mem_rows (p := Row.Sound) (⟨rfl, rfl⟩) <|
  forall_mem_rows (p := Row.Sound) (fun _ => ⟨rfl, rfl, rfl⟩) <|
  forall_mem_rows (p := Row.Sound) (fun _ => ⟨rfl, rfl, rfl⟩) <|
  forall_mem_rows (p := Row.Sound) (fun _ => ⟨rfl, rfl, rfl⟩) <|
  fun _ h => absurd h List.not_mem_nil

theorem rows_sound_6 : ∀ r ∈ opcodeRows 0x6, r.Sound :=
  forall_mem_rows (p := Row.Sound) (⟨rfl, rfl⟩) <|
  forall_mem_rows (p := Row.Sound) (fun _ => ⟨rfl, rfl, rfl⟩) <|
  forall_mem_rows (p := Row.Sound) (fun _ => ⟨rfl, rfl, rfl⟩) <|
  forall_mem_rows (p := Row.Sound) (fun _ => ⟨rfl, rfl, rfl⟩) <|
  forall_mem_rows (p := Row.Sound) (⟨rfl, rfl⟩) <|
  forall_mem_rows (p := Row.Sound) (fun _ => ⟨rfl, rfl, rfl⟩) <|
  forall_mem_rows (p := Row.Sound) (⟨rfl, rfl⟩) <|
  forall_mem_rows (p := Row.Sound) (fun _ => ⟨rfl, rfl, rfl⟩) <|
  forall_mem_rows (p := Row.Sound) (fun _ => ⟨rfl, rfl, rfl⟩) <|
  forall_mem_rows (p := Row.Sound) (fun _ => ⟨rfl, rfl, rfl⟩) <|
  fun _ h => absurd h List.not_mem_nil

theorem rows_sound_7 : ∀ r ∈ opcodeRows 0x7, r.Sound :=
  forall_mem_rows (p := Row.Sound) (fun _ => ⟨rfl, rfl, rfl⟩) <|
  forall_mem_rows (p := Row.Sound) (fun _ => ⟨rfl, rfl, rfl⟩) <|
  forall_mem_rows (p := Row.Sound) (fun _ => ⟨rfl, rfl, rfl⟩) <|
  forall_mem_rows (p := Row.Sound) (fun _ => ⟨rfl, rfl, rfl⟩) <|
  forall_mem_rows (p := Row.Sound) (⟨rfl, rfl⟩) <|
  forall_mem_rows (p := Row.Sound) (fun _ => ⟨rfl, rfl, rfl⟩) <|
  forall_mem_rows (p := Row.Sound) (fun _ => ⟨rfl, rfl, rfl⟩) <|
  forall_mem_rows (p := Row.Sound) (fun _ => ⟨rfl, rfl, rfl⟩) <|
  fun _ h => absurd h List.not_mem_nil

theorem rows_sound_8 : ∀ r ∈ opcodeRows 0x8, r.Sound :=
  forall_mem_rows (p := Row.Sound) (fun _ => ⟨rfl, rfl, rfl⟩) <|
  forall_mem_rows (p := Row.Sound) (fun _ => ⟨rfl, rfl, rfl⟩) <|
  forall_mem_rows (p := Row.Sound) (fun _ => ⟨rfl, rfl, rfl⟩) <|
  forall_mem_rows (p := Row.Sound) (fun _ => ⟨rfl, rfl, rfl⟩) <|
  forall_mem_rows (p := Row.Sound) (⟨rfl, rfl⟩) <|
  forall_mem_rows (p := Row.Sound) (⟨rfl, rfl⟩) <|
  forall_mem_rows (p := Row.Sound) (fun _ => ⟨rfl, rfl, rfl⟩) <|
  forall_mem_rows (p := Row.Sound) (fun _ => ⟨rfl, rfl, rfl⟩) <|
  forall_mem_rows (p := Row.Sound) (fun _ => ⟨rfl, rfl, rfl⟩) <|
  fun _ h => absurd h List.not_mem_nil

theorem rows_sound_9 : ∀ r ∈ opcodeRows 0x9, r.Sound :=
  forall_mem_rows (p := Row.Sound) (fun _ => ⟨rfl, rfl, rfl⟩) <|
  forall_mem_rows (p := Row.Sound) (fun _ => ⟨rfl, rfl, rfl⟩) <|
  forall_mem_rows (p := Row.Sound) (fun _ => ⟨rfl, rfl, rfl⟩) <|
  forall_mem_rows (p := Row.Sound) (fun _ => ⟨rfl, rfl, rfl⟩) <|
  forall_mem_rows (p := Row.Sound) (fun _ => ⟨rfl, rfl, rfl⟩) <|
  forall_mem_rows (p := Row.Sound) (⟨rfl, rfl⟩) <|
  forall_mem_rows (p := Row.Sound) (fun _ => ⟨rfl, rfl, rfl⟩) <|
  forall_mem_rows (p := Row.Sound) (⟨rfl, rfl⟩) <|
  forall_mem_rows (p := Row.Sound) (fun _ => ⟨rfl, rfl, rfl⟩) <|
  fun _ h => absurd h List.not_mem_nil

theorem rows_sound_A : ∀ r ∈ opcodeRows 0xA, r.Sound :=
  forall_mem_rows (p := Row.Sound) (fun _ => ⟨rfl, rfl, rfl⟩) <|
  forall_mem_rows (p := Row.Sound) (fun _ => ⟨rfl, rfl, rfl⟩) <|
  forall_mem_rows (p := Row.Sound) (fun _ => ⟨rfl, rfl, rfl⟩) <|
  forall_mem_rows (p := Row.Sound) (fun _ => ⟨rfl, rfl, rfl⟩) <|
  forall_mem_rows (p := Row.Sound) (fun _ => ⟨rfl, rfl, rfl⟩) <|
  forall_mem_rows (p := Row.Sound) (fun _ => ⟨rfl, rfl, rfl⟩) <|
  forall_mem_rows (p := Row.Sound) (⟨rfl, rfl⟩) <|
  forall_mem_rows (p := Row.Sound) (fun _ => ⟨rfl, rfl, rfl⟩) <|
  forall_mem_rows (p := Row.Sound) (⟨rfl, rfl⟩) <|
  forall_mem_rows (p := Row.Sound) (fun _ => ⟨rfl, rfl, rfl⟩) <|
  forall_mem_rows (p := Row.Sound) (fun _ => ⟨rfl, rfl, rfl⟩) <|
  forall_mem_rows (p := Row.Sound) (fun _ => ⟨rfl, rfl, rfl⟩) <|
  fun _ h => absurd h List.not_mem_nil

theorem rows_sound_B : ∀ r ∈ opcodeRows 0xB, r.Sound :=
  forall_mem_rows (p := Row.Sound) (fun _ => ⟨rfl, rfl, rfl⟩) <|
  forall_mem_rows (p := Row.Sound) (fun _ => ⟨rfl, rfl, rfl⟩) <|
  forall_mem_rows (p := Row.Sound) (fun _ => ⟨rfl, rfl, rfl⟩) <|
  forall_mem_rows (p := Row.Sound) (fun _ => ⟨rfl, rfl, rfl⟩) <|
  forall_mem_rows (p := Row.Sound) (fun _ => ⟨rfl, rfl, rfl⟩) <|
  forall_mem_rows (p := Row.Sound) (⟨rfl, rfl⟩) <|
  forall_mem_rows (p := Row.Sound) (fun _ => ⟨rfl, rfl, rfl⟩) <|
  forall_mem_rows (p := Row.Sound) (⟨rfl, rfl⟩) <|
  forall_mem_rows (p := Row.Sound) (fun _ => ⟨rfl, rfl, rfl⟩) <|
  forall_mem_rows (p := Row.Sound) (fun _ => ⟨rfl, rfl, rfl⟩) <|
  forall_mem_rows (p := Row.Sound) (fun _ => ⟨rfl, rfl, rfl⟩) <|
  fun _ h => absurd h List.not_mem_nil

theorem rows_sound_C : ∀ r ∈ opcodeRows 0xC, r.Sound :=
  forall_mem_rows (p := Row.Sound) (fun _ => ⟨rfl, rfl, rfl⟩) <|
  forall_mem_rows (p := Row.Sound) (fun _ => ⟨rfl, rfl, rfl⟩) <|
  forall_mem_rows (p := Row.Sound) (fun _ => ⟨rfl, rfl, rfl⟩) <|
  forall_mem_rows (p := Row.Sound) (fun _ => ⟨rfl, rfl, rfl⟩) <|
  forall_mem_rows (p := Row.Sound) (fun _ => ⟨rfl, rfl, rfl⟩) <|
  forall_mem_rows (p := Row.Sound) (⟨rfl, rfl⟩) <|
  forall_mem_rows (p := Row.Sound) (fun _ => ⟨rfl, rfl, rfl⟩) <|
  forall_mem_rows (p := Row.Sound) (⟨rfl, rfl⟩) <|
  forall_mem_rows (p := Row.Sound) (fun _ => ⟨rfl, rfl, rfl⟩) <|
  forall_mem_rows (p := Row.Sound) (fun _ => ⟨rfl, rfl, rfl⟩) <|
  forall_mem_rows (p := Row.Sound) (fun _ => ⟨rfl, rfl, rfl⟩) <|
  fun _ h => absurd h List.not_mem_nil

theorem rows_sound_D : ∀ r ∈ opcodeRows 0xD, r.Sound :=
  forall_mem_rows (p := Row.Sound) (fun _ => ⟨rfl, rfl, rfl⟩) <|
  forall_mem_rows (p := Row.Sound) (fun _ => ⟨rfl, rfl, rfl⟩) <|
  forall_mem_rows (p := Row.Sound) (fun _ => ⟨rfl, rfl, rfl⟩) <|
  forall_mem_rows (p := Row.Sound) (fun _ => ⟨rfl, rfl, rfl⟩) <|
  forall_mem_rows (p := Row.Sound) (⟨rfl, rfl⟩) <|
  forall_mem_rows (p := Row.Sound) (fun _ => ⟨rfl, rfl, rfl⟩) <|
  forall_mem_rows (p := Row.Sound) (fun _ => ⟨rfl, rfl, rfl⟩) <|
  forall_mem_rows (p := Row.Sound) (fun _ => ⟨rfl, rfl, rfl⟩) <|
  fun _ h => absurd h List.not_mem_nil

theorem rows_sound_E : ∀ r ∈ opcodeRows 0xE, r.Sound :=
  forall_mem_rows (p := Row.Sound) (fun _ => ⟨rfl, rfl, rfl⟩) <|
  forall_mem_rows (p := Row.Sound) (fun _ => ⟨rfl, rfl, rfl⟩) <|
  forall_mem_rows (p := Row.Sound) (fun _ => ⟨rfl, rfl, rfl⟩) <|
  forall_mem_rows (p := Row.Sound) (fun _ => ⟨rfl, rfl, rfl⟩) <|
  forall_mem_rows (p := Row.Sound) (fun _ => ⟨rfl, rfl, rfl⟩) <|
  forall_mem_rows (p := Row.Sound) (⟨rfl, rfl⟩) <|
  forall_mem_rows (p := Row.Sound) (fun _ => ⟨rfl, rfl, rfl⟩) <|
  forall_mem_rows (p := Row.Sound) (⟨rfl, rfl⟩) <|
  forall_mem_rows (p := Row.Sound) (fun _ => ⟨rfl, rfl, rfl⟩) <|
  forall_mem_rows (p := Row.Sound) (fun _ => ⟨rfl, rfl, rfl⟩) <|
  forall_mem_rows (p := Row.Sound) (fun _ => ⟨rfl, rfl, rfl⟩) <|
  fun _ h => absurd h List.not_mem_nil

theorem rows_sound_F : ∀ r ∈ opcodeRows 0xF, r.Sound :=
  forall_mem_rows (p := Row.Sound) (fun _ => ⟨rfl, rfl, rfl⟩) <|
  forall_mem_rows (p := Row.Sound) (fun _ => ⟨rfl, rfl, rfl⟩) <|
  forall_mem_rows (p := Row.Sound) (fun _ => ⟨rfl, rfl, rfl⟩) <|
  forall_mem_rows (p := Row.Sound) (fun _ => ⟨rfl, rfl, rfl⟩) <|
  forall_mem_rows (p := Row.Sound) (⟨rfl, rfl⟩) <|
  forall_mem_rows (p := Row.Sound) (fun _ => ⟨rfl, rfl, rfl⟩) <|
  forall_mem_rows (p := Row.Sound) (fun _ => ⟨rfl, rfl, rfl⟩) <|
  forall_mem_rows (p := Row.Sound) (fun _ => ⟨rfl, rfl, rfl⟩) <|
  fun _ h => absurd h List.not_mem_nil

theorem rows_sound (n : Nat) (hn : n < 16) : ∀ r ∈ opcodeRows n, r.Sound :=
  match n, hn with
  | 0x0, _ => rows_sound_0
  | 0x1, _ => rows_sound_1
  | 0x2, _ => rows_sound_2
  | 0x3, _ => rows_sound_3
  | 0x4, _ => rows_sound_4
  | 0x5, _ => rows_sound_5
  | 0x6, _ => rows_sound_6
  | 0x7, _ => rows_sound_7
  | 0x8, _ => rows_sound_8
  | 0x9, _ => rows_sound_9
  | 0xA, _ => rows_sound_A
  | 0xB, _ => rows_sound_B
  | 0xC, _ => rows_sound_C
  | 0xD, _ => rows_sound_D
  | 0xE, _ => rows_sound_E
  | 0xF, _ => rows_sound_F
  | n + 16, h => absurd h (by omega)

/-- What the table answers for an opcode byte: a row of that byte, sound. -/
theorem lookup_sound {op : Byte} {r : Row} (h : lookup op = some r) : r.opcode = op ∧ r.Sound := by
  have hlt := op.isLt
  unfold lookup at h
  exact ⟨by simpa using List.find?_some h, rows_sound _ (by omega) r (List.mem_of_find?_eq_some h)⟩

theorem lookup_builds_of {i : Instr} {op : Byte} {r : Row} (h : i.opcode = op) (hl : lookup op = some r) (hb : r.form.Builds i) :
    ∃ r, lookup i.opcode = some r ∧ r.form.Builds i := ⟨r, by rw [h, hl], hb⟩

/-- The row of an instruction's opcode builds it. -/
theorem lookup_builds (i : Instr) : ∃ r, lookup i.opcode = some r ∧ r.form.Builds i :=
  match i with
  | .brk => lookup_builds_of rfl (rfl : lookup 0x00 = _) ⟨rfl, rfl⟩
  | .oraIzx b => lookup_builds_of rfl (rfl : lookup 0x01 = _) ⟨b, rfl, rfl, rfl⟩
  | .oraZp b => lookup_builds_of rfl (rfl : lookup 0x05 = _) ⟨b, rfl, rfl, rfl⟩
  | .aslZp b => lookup_builds_of rfl (rfl : lookup 0x06 = _) ⟨b, rfl, rfl, rfl⟩
  | .php => lookup_builds_of rfl (rfl : lookup 0x08 = _) ⟨rfl, rfl⟩
  | .oraImm b => lookup_builds_of rfl (rfl : lookup 0x09 = _) ⟨b, rfl, rfl, rfl⟩
  | .aslAcc => lookup_builds_of rfl (rfl : lookup 0x0A = _) ⟨rfl, rfl⟩
  | .oraAbs w => lookup_builds_of rfl (rfl : lookup 0x0D = _) ⟨w, rfl, rfl, rfl⟩
  | .aslAbs w => lookup_builds_of rfl (rfl : lookup 0x0E = _) ⟨w, rfl, rfl, rfl⟩
  | .bpl b => lookup_builds_of rfl (rfl : lookup 0x10 = _) ⟨b, rfl, rfl, rfl⟩
  | .oraIzy b => lookup_builds_of rfl (rfl : lookup 0x11 = _) ⟨b, rfl, rfl, rfl⟩
  | .oraZpx b => lookup_builds_of rfl (rfl : lookup 0x15 = _) ⟨b, rfl, rfl, rfl⟩
  | .aslZpx b => lookup_builds_of rfl (rfl : lookup 0x16 = _) ⟨b, rfl, rfl, rfl⟩
  | .clc => lookup_builds_of rfl (rfl : lookup 0x18 = _) ⟨rfl, rfl⟩
  | .oraAbsy w => lookup_builds_of rfl (rfl : lookup 0x19 = _) ⟨w, rfl, rfl, rfl⟩
  | .oraAbsx w => lookup_builds_of rfl (rfl : lookup 0x1D = _) ⟨w, rfl, rfl, rfl⟩
  | .aslAbsx w => lookup_builds_of rfl (rfl : lookup 0x1E = _) ⟨w, rfl, rfl, rfl⟩
  | .jsr w => lookup_builds_of rfl (rfl : lookup 0x20 = _) ⟨w, rfl, rfl, rfl⟩
  | .andIzx b => lookup_builds_of rfl (rfl : lookup 0x21 = _) ⟨b, rfl, rfl, rfl⟩
  | .bitZp b => lookup_builds_of rfl (rfl : lookup 0x24 = _) ⟨b, rfl, rfl, rfl⟩
  | .andZp b => lookup_builds_of rfl (rfl : lookup 0x25 = _) ⟨b, rfl, rfl, rfl⟩
  | .rolZp b => lookup_builds_of rfl (rfl : lookup 0x26 = _) ⟨b, rfl, rfl, rfl⟩
  | .plp => lookup_builds_of rfl (rfl : lookup 0x28 = _) ⟨rfl, rfl⟩
  | .andImm b => lookup_builds_of rfl (rfl : lookup 0x29 = _) ⟨b, rfl, rfl, rfl⟩
  | .rolAcc => lookup_builds_of rfl (rfl : lookup 0x2A = _) ⟨rfl, rfl⟩
  | .bitAbs w => lookup_builds_of rfl (rfl : lookup 0x2C = _) ⟨w, rfl, rfl, rfl⟩
  | .andAbs w => lookup_builds_of rfl (rfl : lookup 0x2D = _) ⟨w, rfl, rfl, rfl⟩
  | .rolAbs w => lookup_builds_of rfl (rfl : lookup 0x2E = _) ⟨w, rfl, rfl, rfl⟩
  | .bmi b => lookup_builds_of rfl (rfl : lookup 0x30 = _) ⟨b, rfl, rfl, rfl⟩
  | .andIzy b => lookup_builds_of rfl (rfl : lookup 0x31 = _) ⟨b, rfl, rfl, rfl⟩
  | .andZpx b => lookup_builds_of rfl (rfl : lookup 0x35 = _) ⟨b, rfl, rfl, rfl⟩
  | .rolZpx b => lookup_builds_of rfl (rfl : lookup 0x36 = _) ⟨b, rfl, rfl, rfl⟩
  | .sec => lookup_builds_of rfl (rfl : lookup 0x38 = _) ⟨rfl, rfl⟩
  | .andAbsy w => lookup_builds_of rfl (rfl : lookup 0x39 = _) ⟨w, rfl, rfl, rfl⟩
  | .andAbsx w => lookup_builds_of rfl (rfl : lookup 0x3D = _) ⟨w, rfl, rfl, rfl⟩
  | .rolAbsx w => lookup_builds_of rfl (rfl : lookup 0x3E = _) ⟨w, rfl, rfl, rfl⟩
  | .rti => lookup_builds_of rfl (rfl : lookup 0x40 = _) ⟨rfl, rfl⟩
  | .eorIzx b => lookup_builds_of rfl (rfl : lookup 0x41 = _) ⟨b, rfl, rfl, rfl⟩
  | .eorZp b => lookup_builds_of rfl (rfl : lookup 0x45 = _) ⟨b, rfl, rfl, rfl⟩
  | .lsrZp b => lookup_builds_of rfl (rfl : lookup 0x46 = _) ⟨b, rfl, rfl, rfl⟩
  | .pha => lookup_builds_of rfl (rfl : lookup 0x48 = _) ⟨rfl, rfl⟩
  | .eorImm b => lookup_builds_of rfl (rfl : lookup 0x49 = _) ⟨b, rfl, rfl, rfl⟩
  | .lsrAcc => lookup_builds_of rfl (rfl : lookup 0x4A = _) ⟨rfl, rfl⟩
  | .jmpAbs w => lookup_builds_of rfl (rfl : lookup 0x4C = _) ⟨w, rfl, rfl, rfl⟩
  | .eorAbs w => lookup_builds_of rfl (rfl : lookup 0x4D = _) ⟨w, rfl, rfl, rfl⟩
  | .lsrAbs w => lookup_builds_of rfl (rfl : lookup 0x4E = _) ⟨w, rfl, rfl, rfl⟩
  | .bvc b => lookup_builds_of rfl (rfl : lookup 0x50 = _) ⟨b, rfl, rfl, rfl⟩
  | .eorIzy b => lookup_builds_of rfl (rfl : lookup 0x51 = _) ⟨b, rfl, rfl, rfl⟩
  | .eorZpx b => lookup_builds_of rfl (rfl : lookup 0x55 = _) ⟨b, rfl, rfl, rfl⟩
  | .lsrZpx b => lookup_builds_of rfl (rfl : lookup 0x56 = _) ⟨b, rfl, rfl, rfl⟩
  | .cli => lookup_builds_of rfl (rfl : lookup 0x58 = _) ⟨rfl, rfl⟩
  | .eorAbsy w => lookup_builds_of rfl (rfl : lookup 0x59 = _) ⟨w, rfl, rfl, rfl⟩
  | .eorAbsx w => lookup_builds_of rfl (rfl : lookup 0x5D = _) ⟨w, rfl, rfl, rfl⟩
  | .lsrAbsx w => lookup_builds_of rfl (rfl : lookup 0x5E = _) ⟨w, rfl, rfl, rfl⟩
  | .rts => lookup_builds_of rfl (rfl : lookup 0x60 = _) ⟨rfl, rfl⟩
  | .adcIzx b => lookup_builds_of rfl (rfl : lookup 0x61 = _) ⟨b, rfl, rfl, rfl⟩
  | .adcZp b => lookup_builds_of rfl (rfl : lookup 0x65 = _) ⟨b, rfl, rfl, rfl⟩
  | .rorZp b => lookup_builds_of rfl (rfl : lookup 0x66 = _) ⟨b, rfl, rfl, rfl⟩
  | .pla => lookup_builds_of rfl (rfl : lookup 0x68 = _) ⟨rfl, rfl⟩
  | .adcImm b => lookup_builds_of rfl (rfl : lookup 0x69 = _) ⟨b, rfl, rfl, rfl⟩
  | .rorAcc => lookup_builds_of rfl (rfl : lookup 0x6A = _) ⟨rfl, rfl⟩
  | .jmpInd w => lookup_builds_of rfl (rfl : lookup 0x6C = _) ⟨w, rfl, rfl, rfl⟩
  | .adcAbs w => lookup_builds_of rfl (rfl : lookup 0x6D = _) ⟨w, rfl, rfl, rfl⟩
  | .rorAbs w => lookup_builds_of rfl (rfl : lookup 0x6E = _) ⟨w, rfl, rfl, rfl⟩
  | .bvs b => lookup_builds_of rfl (rfl : lookup 0x70 = _) ⟨b, rfl, rfl, rfl⟩
  | .adcIzy b => lookup_builds_of rfl (rfl : lookup 0x71 = _) ⟨b, rfl, rfl, rfl⟩
  | .adcZpx b => lookup_builds_of rfl (rfl : lookup 0x75 = _) ⟨b, rfl, rfl, rfl⟩
  | .rorZpx b => lookup_builds_of rfl (rfl : lookup 0x76 = _) ⟨b, rfl, rfl, rfl⟩
  | .sei => lookup_builds_of rfl (rfl : lookup 0x78 = _) ⟨rfl, rfl⟩
  | .adcAbsy w => lookup_builds_of rfl (rfl : lookup 0x79 = _) ⟨w, rfl, rfl, rfl⟩
  | .adcAbsx w => lookup_builds_of rfl (rfl : lookup 0x7D = _) ⟨w, rfl, rfl, rfl⟩
  | .rorAbsx w => lookup_builds_of rfl (rfl : lookup 0x7E = _) ⟨w, rfl, rfl, rfl⟩
  | .staIzx b => lookup_builds_of rfl (rfl : lookup 0x81 = _) ⟨b, rfl, rfl, rfl⟩
  | .styZp b => lookup_builds_of rfl (rfl : lookup 0x84 = _) ⟨b, rfl, rfl, rfl⟩
  | .staZp b => lookup_builds_of rfl (rfl : lookup 0x85 = _) ⟨b, rfl, rfl, rfl⟩
  | .stxZp b => lookup_builds_of rfl (rfl : lookup 0x86 = _) ⟨b, rfl, rfl, rfl⟩
  | .dey => lookup_builds_of rfl (rfl : lookup 0x88 = _) ⟨rfl, rfl⟩
  | .txa => lookup_builds_of rfl (rfl : lookup 0x8A = _) ⟨rfl, rfl⟩
  | .styAbs w => lookup_builds_of rfl (rfl : lookup 0x8C = _) ⟨w, rfl, rfl, rfl⟩
  | .staAbs w => lookup_builds_of rfl (rfl : lookup 0x8D = _) ⟨w, rfl, rfl, rfl⟩
  | .stxAbs w => lookup_builds_of rfl (rfl : lookup 0x8E = _) ⟨w, rfl, rfl, rfl⟩
  | .bcc b => lookup_builds_of rfl (rfl : lookup 0x90 = _) ⟨b, rfl, rfl, rfl⟩
  | .staIzy b => lookup_builds_of rfl (rfl : lookup 0x91 = _) ⟨b, rfl, rfl, rfl⟩
  | .styZpx b => lookup_builds_of rfl (rfl : lookup 0x94 = _) ⟨b, rfl, rfl, rfl⟩
  | .staZpx b => lookup_builds_of rfl (rfl : lookup 0x95 = _) ⟨b, rfl, rfl, rfl⟩
  | .stxZpy b => lookup_builds_of rfl (rfl : lookup 0x96 = _) ⟨b, rfl, rfl, rfl⟩
  | .tya => lookup_builds_of rfl (rfl : lookup 0x98 = _) ⟨rfl, rfl⟩
  | .staAbsy w => lookup_builds_of rfl (rfl : lookup 0x99 = _) ⟨w, rfl, rfl, rfl⟩
  | .txs => lookup_builds_of rfl (rfl : lookup 0x9A = _) ⟨rfl, rfl⟩
  | .staAbsx w => lookup_builds_of rfl (rfl : lookup 0x9D = _) ⟨w, rfl, rfl, rfl⟩
  | .ldyImm b => lookup_builds_of rfl (rfl : lookup 0xA0 = _) ⟨b, rfl, rfl, rfl⟩
  | .ldaIzx b => lookup_builds_of rfl (rfl : lookup 0xA1 = _) ⟨b, rfl, rfl, rfl⟩
  | .ldxImm b => lookup_builds_of rfl (rfl : lookup 0xA2 = _) ⟨b, rfl, rfl, rfl⟩
  | .ldyZp b => lookup_builds_of rfl (rfl : lookup 0xA4 = _) ⟨b, rfl, rfl, rfl⟩
  | .ldaZp b => lookup_builds_of rfl (rfl : lookup 0xA5 = _) ⟨b, rfl, rfl, rfl⟩
  | .ldxZp b => lookup_builds_of rfl (rfl : lookup 0xA6 = _) ⟨b, rfl, rfl, rfl⟩
  | .tay => lookup_builds_of rfl (rfl : lookup 0xA8 = _) ⟨rfl, rfl⟩
  | .ldaImm b => lookup_builds_of rfl (rfl : lookup 0xA9 = _) ⟨b, rfl, rfl, rfl⟩
  | .tax => lookup_builds_of rfl (rfl : lookup 0xAA = _) ⟨rfl, rfl⟩
  | .ldyAbs w => lookup_builds_of rfl (rfl : lookup 0xAC = _) ⟨w, rfl, rfl, rfl⟩
  | .ldaAbs w => lookup_builds_of rfl (rfl : lookup 0xAD = _) ⟨w, rfl, rfl, rfl⟩
  | .ldxAbs w => lookup_builds_of rfl (rfl : lookup 0xAE = _) ⟨w, rfl, rfl, rfl⟩
  | .bcs b => lookup_builds_of rfl (rfl : lookup 0xB0 = _) ⟨b, rfl, rfl, rfl⟩
  | .ldaIzy b => lookup_builds_of rfl (rfl : lookup 0xB1 = _) ⟨b, rfl, rfl, rfl⟩
  | .ldyZpx b => lookup_builds_of rfl (rfl : lookup 0xB4 = _) ⟨b, rfl, rfl, rfl⟩
  | .ldaZpx b => lookup_builds_of rfl (rfl : lookup 0xB5 = _) ⟨b, rfl, rfl, rfl⟩
  | .ldxZpy b => lookup_builds_of rfl (rfl : lookup 0xB6 = _) ⟨b, rfl, rfl, rfl⟩
  | .clv => lookup_builds_of rfl (rfl : lookup 0xB8 = _) ⟨rfl, rfl⟩
  | .ldaAbsy w => lookup_builds_of rfl (rfl : lookup 0xB9 = _) ⟨w, rfl, rfl, rfl⟩
  | .tsx => lookup_builds_of rfl (rfl : lookup 0xBA = _) ⟨rfl, rfl⟩
  | .ldyAbsx w => lookup_builds_of rfl (rfl : lookup 0xBC = _) ⟨w, rfl, rfl, rfl⟩
  | .ldaAbsx w => lookup_builds_of rfl (rfl : lookup 0xBD = _) ⟨w, rfl, rfl, rfl⟩
  | .ldxAbsy w => lookup_builds_of rfl (rfl : lookup 0xBE = _) ⟨w, rfl, rfl, rfl⟩
  | .cpyImm b => lookup_builds_of rfl (rfl : lookup 0xC0 = _) ⟨b, rfl, rfl, rfl⟩
  | .cmpIzx b => lookup_builds_of rfl (rfl : lookup 0xC1 = _) ⟨b, rfl, rfl, rfl⟩
  | .cpyZp b => lookup_builds_of rfl (rfl : lookup 0xC4 = _) ⟨b, rfl, rfl, rfl⟩
  | .cmpZp b => lookup_builds_of rfl (rfl : lookup 0xC5 = _) ⟨b, rfl, rfl, rfl⟩
  | .decZp b => lookup_builds_of rfl (rfl : lookup 0xC6 = _) ⟨b, rfl, rfl, rfl⟩
  | .iny => lookup_builds_of rfl (rfl : lookup 0xC8 = _) ⟨rfl, rfl⟩
  | .cmpImm b => lookup_builds_of rfl (rfl : lookup 0xC9 = _) ⟨b, rfl, rfl, rfl⟩
  | .dex => lookup_builds_of rfl (rfl : lookup 0xCA = _) ⟨rfl, rfl⟩
  | .cpyAbs w => lookup_builds_of rfl (rfl : lookup 0xCC = _) ⟨w, rfl, rfl, rfl⟩
  | .cmpAbs w => lookup_builds_of rfl (rfl : lookup 0xCD = _) ⟨w, rfl, rfl, rfl⟩
  | .decAbs w => lookup_builds_of rfl (rfl : lookup 0xCE = _) ⟨w, rfl, rfl, rfl⟩
  | .bne b => lookup_builds_of rfl (rfl : lookup 0xD0 = _) ⟨b, rfl, rfl, rfl⟩
  | .cmpIzy b => lookup_builds_of rfl (rfl : lookup 0xD1 = _) ⟨b, rfl, rfl, rfl⟩
  | .cmpZpx b => lookup_builds_of rfl (rfl : lookup 0xD5 = _) ⟨b, rfl, rfl, rfl⟩
  | .decZpx b => lookup_builds_of rfl (rfl : lookup 0xD6 = _) ⟨b, rfl, rfl, rfl⟩
  | .cld => lookup_builds_of rfl (rfl : lookup 0xD8 = _) ⟨rfl, rfl⟩
  | .cmpAbsy w => lookup_builds_of rfl (rfl : lookup 0xD9 = _) ⟨w, rfl, rfl, rfl⟩
  | .cmpAbsx w => lookup_builds_of rfl (rfl : lookup 0xDD = _) ⟨w, rfl, rfl, rfl⟩
  | .decAbsx w => lookup_builds_of rfl (rfl : lookup 0xDE = _) ⟨w, rfl, rfl, rfl⟩
  | .cpxImm b => lookup_builds_of rfl (rfl : lookup 0xE0 = _) ⟨b, rfl, rfl, rfl⟩
  | .sbcIzx b => lookup_builds_of rfl (rfl : lookup 0xE1 = _) ⟨b, rfl, rfl, rfl⟩
  | .cpxZp b => lookup_builds_of rfl (rfl : lookup 0xE4 = _) ⟨b, rfl, rfl, rfl⟩
  | .sbcZp b => lookup_builds_of rfl (rfl : lookup 0xE5 = _) ⟨b, rfl, rfl, rfl⟩
  | .incZp b => lookup_builds_of rfl (rfl : lookup 0xE6 = _) ⟨b, rfl, rfl, rfl⟩
  | .inx => lookup_builds_of rfl (rfl : lookup 0xE8 = _) ⟨rfl, rfl⟩
  | .sbcImm b => lookup_builds_of rfl (rfl : lookup 0xE9 = _) ⟨b, rfl, rfl, rfl⟩
  | .nop => lookup_builds_of rfl (rfl : lookup 0xEA = _) ⟨rfl, rfl⟩
  | .cpxAbs w => lookup_builds_of rfl (rfl : lookup 0xEC = _) ⟨w, rfl, rfl, rfl⟩
  | .sbcAbs w => lookup_builds_of rfl (rfl : lookup 0xED = _) ⟨w, rfl, rfl, rfl⟩
  | .incAbs w => lookup_builds_of rfl (rfl : lookup 0xEE = _) ⟨w, rfl, rfl, rfl⟩
  | .beq b => lookup_builds_of rfl (rfl : lookup 0xF0 = _) ⟨b, rfl, rfl, rfl⟩
  | .sbcIzy b => lookup_builds_of rfl (rfl : lookup 0xF1 = _) ⟨b, rfl, rfl, rfl⟩
  | .sbcZpx b => lookup_builds_of rfl (rfl : lookup 0xF5 = _) ⟨b, rfl, rfl, rfl⟩
  | .incZpx b => lookup_builds_of rfl (rfl : lookup 0xF6 = _) ⟨b, rfl, rfl, rfl⟩
  | .sed => lookup_builds_of rfl (rfl : lookup 0xF8 = _) ⟨rfl, rfl⟩
  | .sbcAbsy w => lookup_builds_of rfl (rfl : lookup 0xF9 = _) ⟨w, rfl, rfl, rfl⟩
  | .sbcAbsx w => lookup_builds_of rfl (rfl : lookup 0xFD = _) ⟨w, rfl, rfl, rfl⟩
  | .incAbsx w => lookup_builds_of rfl (rfl : lookup 0xFE = _) ⟨w, rfl, rfl, rfl⟩

end Sys2Proof
end

