-- ==== Sys2Proof/Laws/Engine.lean ====
section
/-! SUPPORT. The engine's functions, inverted once: what a tick, a boundary, a dispatch and a step of the host can be
(R240, R241, R246, R264). -/

namespace Sys2Proof.Machine

open Sys2Proof.Safety

/-! Taking a call off the schedule touches the schedule alone. -/

@[simp] theorem afterCall_pc (s : State) : (afterCall s).pc = s.pc := rfl
@[simp] theorem afterCall_sp (s : State) : (afterCall s).sp = s.sp := rfl
@[simp] theorem afterCall_a (s : State) : (afterCall s).a = s.a := rfl
@[simp] theorem afterCall_x (s : State) : (afterCall s).x = s.x := rfl
@[simp] theorem afterCall_y (s : State) : (afterCall s).y = s.y := rfl
@[simp] theorem afterCall_flags (s : State) : (afterCall s).flags = s.flags := rfl
@[simp] theorem afterCall_cyc (s : State) : (afterCall s).cyc = s.cyc := rfl
@[simp] theorem afterCall_nmiLatch (s : State) : (afterCall s).nmiLatch = s.nmiLatch := rfl
@[simp] theorem afterCall_irqLine (s : State) : (afterCall s).irqLine = s.irqLine := rfl
@[simp] theorem afterCall_mem (s : State) : (afterCall s).mem = s.mem := rfl
@[simp] theorem afterCall_busMap (s : State) : (afterCall s).busMap = s.busMap := rfl
@[simp] theorem afterCall_devicesTouched (s : State) : (afterCall s).devicesTouched = s.devicesTouched := rfl
@[simp] theorem afterCall_busHistory (s : State) : (afterCall s).busHistory = s.busHistory := rfl
@[simp] theorem afterCall_traceLog (s : State) : (afterCall s).traceLog = s.traceLog := rfl
@[simp] theorem afterCall_diagLog (s : State) : (afterCall s).diagLog = s.diagLog := rfl
@[simp] theorem afterCall_config (s : State) : (afterCall s).config = s.config := rfl
@[simp] theorem afterCall_phase (s : State) : (afterCall s).phase = s.phase := rfl
@[simp] theorem afterCall_schedule (s : State) : (afterCall s).schedule = s.schedule.tail := rfl

/-- A read of memory adds the event of the byte it holds. -/
theorem afterRead_of_plain {a : Word} {s : State} (h : kindAt s.busMap a.toNat ≠ .device) :
    afterRead a s = { s with busHistory := .read a (s.mem.read a.toNat) :: s.busHistory } := by
  simp only [afterRead, busValue_of_plain h]

/-- Fetching a byte of memory (R100). -/
theorem fetch8_of_plain {s : State} (h : kindAt s.busMap s.pc.toNat ≠ .device) :
    fetch8 s =
      (s.mem.read s.pc.toNat,
        { s with pc := s.pc + 1, busHistory := .read s.pc (s.mem.read s.pc.toNat) :: s.busHistory }) := by
  simp only [fetch8, memRead, busValue_of_plain h, afterRead_of_plain h, State.setPc]

/-- Fetching two bytes of memory, low first (R100). -/
theorem fetch16_of_plain {s : State} (h : kindAt s.busMap s.pc.toNat ≠ .device)
    (h1 : kindAt s.busMap (s.pc + 1).toNat ≠ .device) :
    fetch16 s =
      (joinBytes (s.mem.read (s.pc + 1).toNat) (s.mem.read s.pc.toNat),
        { s with
          pc := s.pc + 2
          busHistory := .read (s.pc + 1) (s.mem.read (s.pc + 1).toNat) :: .read s.pc (s.mem.read s.pc.toNat) :: s.busHistory }) := by
  have e := afterRead_of_plain h
  have h1' : kindAt (afterRead s.pc s).busMap (s.pc + 1).toNat ≠ .device := h1
  simp only [fetch16, read16, memRead, busValue_of_plain h, busValue_of_plain h1', afterRead_of_plain h1', State.setPc]
  simp only [e]

/-- Taking the tick off an empty schedule changes nothing. -/
theorem afterCall_of_nil {s : State} (h : s.schedule = []) : afterCall s = s := by
  obtain ⟨⟩ := s
  simp only at h
  subst h
  rfl

/-- A step whose host call is a tick is that tick. -/
theorem step_of_nextIsTick {s : State} (h : NextIsTick s) : step s = tick (afterCall s) := by
  obtain h | ⟨later, h⟩ := h
  · rw [afterCall_of_nil h]
    simp only [step, h]
  · simp only [step, h, hostCall, afterCall, List.tail_cons]

/-- The next host call is a tick, or one of the five others, which are next states. -/
theorem step_cases (s : State) :
    NextIsTick s ∨
      (∃ auto later, s.schedule = .reset auto :: later ∧ step s = .next (hostReset auto (afterCall s))) ∨
      (∃ latched later, s.schedule = .setNmiLatch latched :: later ∧ step s = .next { afterCall s with nmiLatch := latched }) ∨
      (∃ level later, s.schedule = .driveIrq level :: later ∧ step s = .next { afterCall s with irqLine := level }) ∨
      (∃ a v later, s.schedule = .pokeBus a v :: later ∧
        step s = .next { afterCall s with mem := s.mem.write a.toNat v }) ∨
      (∃ touch later, s.schedule = .touchDevices touch :: later ∧
        step s = .next { afterCall s with devicesTouched := touch }) := by
  cases h : s.schedule with
  | nil => exact .inl (.inl h)
  | cons call later =>
    cases call with
    | tick => exact .inl (.inr ⟨later, h⟩)
    | reset auto => exact .inr (.inl ⟨auto, later, rfl, by simp only [step, h, hostCall, afterCall, List.tail_cons]⟩)
    | setNmiLatch latched => exact .inr (.inr (.inl ⟨latched, later, rfl, by simp only [step, h, hostCall, afterCall, List.tail_cons]⟩))
    | driveIrq level =>
      exact .inr (.inr (.inr (.inl ⟨level, later, rfl, by simp only [step, h, hostCall, afterCall, List.tail_cons]⟩)))
    | pokeBus a v =>
      exact .inr (.inr (.inr (.inr (.inl ⟨a, v, later, rfl, by simp only [step, h, hostCall, afterCall, List.tail_cons]⟩))))
    | touchDevices touch =>
      exact .inr (.inr (.inr (.inr (.inr ⟨touch, later, rfl, by simp only [step, h, hostCall, afterCall, List.tail_cons]⟩))))

/-- A boundary is an NMI service, an IRQ service or a dispatch, by priority. -/
theorem boundary_cases (s : State) :
    (s.nmiLatch = true ∧ boundary s = serviceNmi s) ∨
      (s.nmiLatch = false ∧ s.flags.i = false ∧ s.irqLine = true ∧ boundary s = serviceIrq s) ∨
      (s.nmiLatch = false ∧ (s.flags.i = true ∨ s.irqLine = false) ∧ boundary s = dispatch s) := by
  unfold boundary
  cases s.nmiLatch <;> cases s.flags.i <;> cases s.irqLine <;> simp

/-- The state in which an instruction or an unknown opcode is met: PC past the opcode byte, the report made (R246, R256). -/
def fetched (s : State) : State := trace s.pc (busValue s.pc s) (fetch8 s).2

/-- A dispatch meets an unknown opcode, or runs an instruction after zero, one or two operand fetches. -/
theorem dispatch_cases (s : State) :
    (lookup (busValue s.pc s) = none ∧ dispatch s = unknownOpcode (busValue s.pc s) s.pc (fetched s)) ∨
      ∃ row i u, lookup (busValue s.pc s) = some row ∧ dispatch s = exec i u ∧
        ((row.form = .bare i ∧ u = fetched s) ∨
          (∃ k, row.form = .byte k ∧ i = k (fetch8 (fetched s)).1 ∧ u = (fetch8 (fetched s)).2) ∨
          ∃ k, row.form = .word k ∧ i = k (fetch16 (fetched s)).1 ∧ u = (fetch16 (fetched s)).2) := by
  cases h : lookup (busValue s.pc s) with
  | none => exact .inl ⟨rfl, by simp only [dispatch, fetch8, memRead, h]; rfl⟩
  | some row =>
    refine .inr ⟨row, ?_⟩
    cases hf : row.form with
    | bare i => exact ⟨i, _, rfl, by simp only [dispatch, fetch8, memRead, h, hf]; rfl, .inl ⟨rfl, rfl⟩⟩
    | byte k => exact ⟨_, _, rfl, by simp only [dispatch, fetch8, memRead, h, hf]; rfl, .inr (.inl ⟨k, rfl, rfl, rfl⟩)⟩
    | word k =>
      exact ⟨_, _, rfl, by simp only [dispatch, fetch8, fetch16, memRead, h, hf]; rfl, .inr (.inr ⟨k, rfl, rfl, rfl⟩)⟩

/-- The host's placing of bytes keeps the canonical form. -/
theorem plantBytes_wf : ∀ {bytes : List Byte} {pc : Word} {m : Memory}, m.wf = true → (plantBytes bytes pc m).wf = true
  | [], _, _, h => h
  | b :: rest, pc, m, h => plantBytes_wf (bytes := rest) (pc := pc + 1) (m := m.write pc.toNat b) (Memory.write_wf pc.isLt h)

/-- What the trace hook reports and keeps. -/
theorem trace_eq (pc : Word) (op : Byte) (s : State) :
    trace pc op s =
      { s with
        traceLog := (if s.config.traceHook then [⟨pc, op, s.a, s.x, s.y, pack s.flags.b s.flags, s.sp⟩] else []) ++ s.traceLog } := by
  unfold trace
  split <;> rfl

end Sys2Proof.Machine
end

