-- ==== Sys2Proof/Laws/PerInstr.lean ====
section
/-! SUPPORT. A law of every instruction as syntax: its own rule's opcode byte is the table row of its own mnemonic and mode
(R116), and that pairing is well formed. -/

namespace Sys2Proof.Laws.OpcodeRow

/-- The byte of the instruction's rule looks up a row with the instruction's mnemonic and mode. -/
def Statement (i : Instr) : Prop :=
  (lookup i.opcode).map (fun r => (r.opcode, r.mnemonic, r.mode)) = some (i.opcode, i.mnemonic, i.operand.mode) ∧
    i.wellFormed = true

theorem of_row {i : Instr} {op : Byte} {r : Row} (h : i.opcode = op) (hl : lookup op = some r)
    (hr : (r.opcode, r.mnemonic, r.mode) = (op, i.mnemonic, i.operand.mode)) (hw : i.wellFormed = true) : Statement i := by
  subst h
  exact ⟨by rw [hl, Option.map_some, hr], hw⟩

theorem ldaImm (v : Byte) : Statement (.ldaImm v) := of_row rfl (rfl : lookup 0xA9 = _) rfl rfl
theorem ldaZp (z : Byte) : Statement (.ldaZp z) := of_row rfl (rfl : lookup 0xA5 = _) rfl rfl
theorem ldaZpx (z : Byte) : Statement (.ldaZpx z) := of_row rfl (rfl : lookup 0xB5 = _) rfl rfl
theorem ldaAbs (w : Word) : Statement (.ldaAbs w) := of_row rfl (rfl : lookup 0xAD = _) rfl rfl
theorem ldaAbsx (w : Word) : Statement (.ldaAbsx w) := of_row rfl (rfl : lookup 0xBD = _) rfl rfl
theorem ldaAbsy (w : Word) : Statement (.ldaAbsy w) := of_row rfl (rfl : lookup 0xB9 = _) rfl rfl
theorem ldaIzx (z : Byte) : Statement (.ldaIzx z) := of_row rfl (rfl : lookup 0xA1 = _) rfl rfl
theorem ldaIzy (z : Byte) : Statement (.ldaIzy z) := of_row rfl (rfl : lookup 0xB1 = _) rfl rfl
theorem ldxImm (v : Byte) : Statement (.ldxImm v) := of_row rfl (rfl : lookup 0xA2 = _) rfl rfl
theorem ldxZp (z : Byte) : Statement (.ldxZp z) := of_row rfl (rfl : lookup 0xA6 = _) rfl rfl
theorem ldxZpy (z : Byte) : Statement (.ldxZpy z) := of_row rfl (rfl : lookup 0xB6 = _) rfl rfl
theorem ldxAbs (w : Word) : Statement (.ldxAbs w) := of_row rfl (rfl : lookup 0xAE = _) rfl rfl
theorem ldxAbsy (w : Word) : Statement (.ldxAbsy w) := of_row rfl (rfl : lookup 0xBE = _) rfl rfl
theorem ldyImm (v : Byte) : Statement (.ldyImm v) := of_row rfl (rfl : lookup 0xA0 = _) rfl rfl
theorem ldyZp (z : Byte) : Statement (.ldyZp z) := of_row rfl (rfl : lookup 0xA4 = _) rfl rfl
theorem ldyZpx (z : Byte) : Statement (.ldyZpx z) := of_row rfl (rfl : lookup 0xB4 = _) rfl rfl
theorem ldyAbs (w : Word) : Statement (.ldyAbs w) := of_row rfl (rfl : lookup 0xAC = _) rfl rfl
theorem ldyAbsx (w : Word) : Statement (.ldyAbsx w) := of_row rfl (rfl : lookup 0xBC = _) rfl rfl
theorem staZp (z : Byte) : Statement (.staZp z) := of_row rfl (rfl : lookup 0x85 = _) rfl rfl
theorem staZpx (z : Byte) : Statement (.staZpx z) := of_row rfl (rfl : lookup 0x95 = _) rfl rfl
theorem staAbs (w : Word) : Statement (.staAbs w) := of_row rfl (rfl : lookup 0x8D = _) rfl rfl
theorem staAbsx (w : Word) : Statement (.staAbsx w) := of_row rfl (rfl : lookup 0x9D = _) rfl rfl
theorem staAbsy (w : Word) : Statement (.staAbsy w) := of_row rfl (rfl : lookup 0x99 = _) rfl rfl
theorem staIzx (z : Byte) : Statement (.staIzx z) := of_row rfl (rfl : lookup 0x81 = _) rfl rfl
theorem staIzy (z : Byte) : Statement (.staIzy z) := of_row rfl (rfl : lookup 0x91 = _) rfl rfl
theorem stxZp (z : Byte) : Statement (.stxZp z) := of_row rfl (rfl : lookup 0x86 = _) rfl rfl
theorem stxZpy (z : Byte) : Statement (.stxZpy z) := of_row rfl (rfl : lookup 0x96 = _) rfl rfl
theorem stxAbs (w : Word) : Statement (.stxAbs w) := of_row rfl (rfl : lookup 0x8E = _) rfl rfl
theorem styZp (z : Byte) : Statement (.styZp z) := of_row rfl (rfl : lookup 0x84 = _) rfl rfl
theorem styZpx (z : Byte) : Statement (.styZpx z) := of_row rfl (rfl : lookup 0x94 = _) rfl rfl
theorem styAbs (w : Word) : Statement (.styAbs w) := of_row rfl (rfl : lookup 0x8C = _) rfl rfl
theorem adcImm (v : Byte) : Statement (.adcImm v) := of_row rfl (rfl : lookup 0x69 = _) rfl rfl
theorem adcZp (z : Byte) : Statement (.adcZp z) := of_row rfl (rfl : lookup 0x65 = _) rfl rfl
theorem adcZpx (z : Byte) : Statement (.adcZpx z) := of_row rfl (rfl : lookup 0x75 = _) rfl rfl
theorem adcAbs (w : Word) : Statement (.adcAbs w) := of_row rfl (rfl : lookup 0x6D = _) rfl rfl
theorem adcAbsx (w : Word) : Statement (.adcAbsx w) := of_row rfl (rfl : lookup 0x7D = _) rfl rfl
theorem adcAbsy (w : Word) : Statement (.adcAbsy w) := of_row rfl (rfl : lookup 0x79 = _) rfl rfl
theorem adcIzx (z : Byte) : Statement (.adcIzx z) := of_row rfl (rfl : lookup 0x61 = _) rfl rfl
theorem adcIzy (z : Byte) : Statement (.adcIzy z) := of_row rfl (rfl : lookup 0x71 = _) rfl rfl
theorem sbcImm (v : Byte) : Statement (.sbcImm v) := of_row rfl (rfl : lookup 0xE9 = _) rfl rfl
theorem sbcZp (z : Byte) : Statement (.sbcZp z) := of_row rfl (rfl : lookup 0xE5 = _) rfl rfl
theorem sbcZpx (z : Byte) : Statement (.sbcZpx z) := of_row rfl (rfl : lookup 0xF5 = _) rfl rfl
theorem sbcAbs (w : Word) : Statement (.sbcAbs w) := of_row rfl (rfl : lookup 0xED = _) rfl rfl
theorem sbcAbsx (w : Word) : Statement (.sbcAbsx w) := of_row rfl (rfl : lookup 0xFD = _) rfl rfl
theorem sbcAbsy (w : Word) : Statement (.sbcAbsy w) := of_row rfl (rfl : lookup 0xF9 = _) rfl rfl
theorem sbcIzx (z : Byte) : Statement (.sbcIzx z) := of_row rfl (rfl : lookup 0xE1 = _) rfl rfl
theorem sbcIzy (z : Byte) : Statement (.sbcIzy z) := of_row rfl (rfl : lookup 0xF1 = _) rfl rfl
theorem andImm (v : Byte) : Statement (.andImm v) := of_row rfl (rfl : lookup 0x29 = _) rfl rfl
theorem andZp (z : Byte) : Statement (.andZp z) := of_row rfl (rfl : lookup 0x25 = _) rfl rfl
theorem andZpx (z : Byte) : Statement (.andZpx z) := of_row rfl (rfl : lookup 0x35 = _) rfl rfl
theorem andAbs (w : Word) : Statement (.andAbs w) := of_row rfl (rfl : lookup 0x2D = _) rfl rfl
theorem andAbsx (w : Word) : Statement (.andAbsx w) := of_row rfl (rfl : lookup 0x3D = _) rfl rfl
theorem andAbsy (w : Word) : Statement (.andAbsy w) := of_row rfl (rfl : lookup 0x39 = _) rfl rfl
theorem andIzx (z : Byte) : Statement (.andIzx z) := of_row rfl (rfl : lookup 0x21 = _) rfl rfl
theorem andIzy (z : Byte) : Statement (.andIzy z) := of_row rfl (rfl : lookup 0x31 = _) rfl rfl
theorem oraImm (v : Byte) : Statement (.oraImm v) := of_row rfl (rfl : lookup 0x09 = _) rfl rfl
theorem oraZp (z : Byte) : Statement (.oraZp z) := of_row rfl (rfl : lookup 0x05 = _) rfl rfl
theorem oraZpx (z : Byte) : Statement (.oraZpx z) := of_row rfl (rfl : lookup 0x15 = _) rfl rfl
theorem oraAbs (w : Word) : Statement (.oraAbs w) := of_row rfl (rfl : lookup 0x0D = _) rfl rfl
theorem oraAbsx (w : Word) : Statement (.oraAbsx w) := of_row rfl (rfl : lookup 0x1D = _) rfl rfl
theorem oraAbsy (w : Word) : Statement (.oraAbsy w) := of_row rfl (rfl : lookup 0x19 = _) rfl rfl
theorem oraIzx (z : Byte) : Statement (.oraIzx z) := of_row rfl (rfl : lookup 0x01 = _) rfl rfl
theorem oraIzy (z : Byte) : Statement (.oraIzy z) := of_row rfl (rfl : lookup 0x11 = _) rfl rfl
theorem eorImm (v : Byte) : Statement (.eorImm v) := of_row rfl (rfl : lookup 0x49 = _) rfl rfl
theorem eorZp (z : Byte) : Statement (.eorZp z) := of_row rfl (rfl : lookup 0x45 = _) rfl rfl
theorem eorZpx (z : Byte) : Statement (.eorZpx z) := of_row rfl (rfl : lookup 0x55 = _) rfl rfl
theorem eorAbs (w : Word) : Statement (.eorAbs w) := of_row rfl (rfl : lookup 0x4D = _) rfl rfl
theorem eorAbsx (w : Word) : Statement (.eorAbsx w) := of_row rfl (rfl : lookup 0x5D = _) rfl rfl
theorem eorAbsy (w : Word) : Statement (.eorAbsy w) := of_row rfl (rfl : lookup 0x59 = _) rfl rfl
theorem eorIzx (z : Byte) : Statement (.eorIzx z) := of_row rfl (rfl : lookup 0x41 = _) rfl rfl
theorem eorIzy (z : Byte) : Statement (.eorIzy z) := of_row rfl (rfl : lookup 0x51 = _) rfl rfl
theorem aslAcc : Statement (.aslAcc) := of_row rfl (rfl : lookup 0x0A = _) rfl rfl
theorem aslZp (z : Byte) : Statement (.aslZp z) := of_row rfl (rfl : lookup 0x06 = _) rfl rfl
theorem aslZpx (z : Byte) : Statement (.aslZpx z) := of_row rfl (rfl : lookup 0x16 = _) rfl rfl
theorem aslAbs (w : Word) : Statement (.aslAbs w) := of_row rfl (rfl : lookup 0x0E = _) rfl rfl
theorem aslAbsx (w : Word) : Statement (.aslAbsx w) := of_row rfl (rfl : lookup 0x1E = _) rfl rfl
theorem lsrAcc : Statement (.lsrAcc) := of_row rfl (rfl : lookup 0x4A = _) rfl rfl
theorem lsrZp (z : Byte) : Statement (.lsrZp z) := of_row rfl (rfl : lookup 0x46 = _) rfl rfl
theorem lsrZpx (z : Byte) : Statement (.lsrZpx z) := of_row rfl (rfl : lookup 0x56 = _) rfl rfl
theorem lsrAbs (w : Word) : Statement (.lsrAbs w) := of_row rfl (rfl : lookup 0x4E = _) rfl rfl
theorem lsrAbsx (w : Word) : Statement (.lsrAbsx w) := of_row rfl (rfl : lookup 0x5E = _) rfl rfl
theorem rolAcc : Statement (.rolAcc) := of_row rfl (rfl : lookup 0x2A = _) rfl rfl
theorem rolZp (z : Byte) : Statement (.rolZp z) := of_row rfl (rfl : lookup 0x26 = _) rfl rfl
theorem rolZpx (z : Byte) : Statement (.rolZpx z) := of_row rfl (rfl : lookup 0x36 = _) rfl rfl
theorem rolAbs (w : Word) : Statement (.rolAbs w) := of_row rfl (rfl : lookup 0x2E = _) rfl rfl
theorem rolAbsx (w : Word) : Statement (.rolAbsx w) := of_row rfl (rfl : lookup 0x3E = _) rfl rfl
theorem rorAcc : Statement (.rorAcc) := of_row rfl (rfl : lookup 0x6A = _) rfl rfl
theorem rorZp (z : Byte) : Statement (.rorZp z) := of_row rfl (rfl : lookup 0x66 = _) rfl rfl
theorem rorZpx (z : Byte) : Statement (.rorZpx z) := of_row rfl (rfl : lookup 0x76 = _) rfl rfl
theorem rorAbs (w : Word) : Statement (.rorAbs w) := of_row rfl (rfl : lookup 0x6E = _) rfl rfl
theorem rorAbsx (w : Word) : Statement (.rorAbsx w) := of_row rfl (rfl : lookup 0x7E = _) rfl rfl
theorem incZp (z : Byte) : Statement (.incZp z) := of_row rfl (rfl : lookup 0xE6 = _) rfl rfl
theorem incZpx (z : Byte) : Statement (.incZpx z) := of_row rfl (rfl : lookup 0xF6 = _) rfl rfl
theorem incAbs (w : Word) : Statement (.incAbs w) := of_row rfl (rfl : lookup 0xEE = _) rfl rfl
theorem incAbsx (w : Word) : Statement (.incAbsx w) := of_row rfl (rfl : lookup 0xFE = _) rfl rfl
theorem decZp (z : Byte) : Statement (.decZp z) := of_row rfl (rfl : lookup 0xC6 = _) rfl rfl
theorem decZpx (z : Byte) : Statement (.decZpx z) := of_row rfl (rfl : lookup 0xD6 = _) rfl rfl
theorem decAbs (w : Word) : Statement (.decAbs w) := of_row rfl (rfl : lookup 0xCE = _) rfl rfl
theorem decAbsx (w : Word) : Statement (.decAbsx w) := of_row rfl (rfl : lookup 0xDE = _) rfl rfl
theorem inx : Statement (.inx) := of_row rfl (rfl : lookup 0xE8 = _) rfl rfl
theorem iny : Statement (.iny) := of_row rfl (rfl : lookup 0xC8 = _) rfl rfl
theorem dex : Statement (.dex) := of_row rfl (rfl : lookup 0xCA = _) rfl rfl
theorem dey : Statement (.dey) := of_row rfl (rfl : lookup 0x88 = _) rfl rfl
theorem cmpImm (v : Byte) : Statement (.cmpImm v) := of_row rfl (rfl : lookup 0xC9 = _) rfl rfl
theorem cmpZp (z : Byte) : Statement (.cmpZp z) := of_row rfl (rfl : lookup 0xC5 = _) rfl rfl
theorem cmpZpx (z : Byte) : Statement (.cmpZpx z) := of_row rfl (rfl : lookup 0xD5 = _) rfl rfl
theorem cmpAbs (w : Word) : Statement (.cmpAbs w) := of_row rfl (rfl : lookup 0xCD = _) rfl rfl
theorem cmpAbsx (w : Word) : Statement (.cmpAbsx w) := of_row rfl (rfl : lookup 0xDD = _) rfl rfl
theorem cmpAbsy (w : Word) : Statement (.cmpAbsy w) := of_row rfl (rfl : lookup 0xD9 = _) rfl rfl
theorem cmpIzx (z : Byte) : Statement (.cmpIzx z) := of_row rfl (rfl : lookup 0xC1 = _) rfl rfl
theorem cmpIzy (z : Byte) : Statement (.cmpIzy z) := of_row rfl (rfl : lookup 0xD1 = _) rfl rfl
theorem cpxImm (v : Byte) : Statement (.cpxImm v) := of_row rfl (rfl : lookup 0xE0 = _) rfl rfl
theorem cpxZp (z : Byte) : Statement (.cpxZp z) := of_row rfl (rfl : lookup 0xE4 = _) rfl rfl
theorem cpxAbs (w : Word) : Statement (.cpxAbs w) := of_row rfl (rfl : lookup 0xEC = _) rfl rfl
theorem cpyImm (v : Byte) : Statement (.cpyImm v) := of_row rfl (rfl : lookup 0xC0 = _) rfl rfl
theorem cpyZp (z : Byte) : Statement (.cpyZp z) := of_row rfl (rfl : lookup 0xC4 = _) rfl rfl
theorem cpyAbs (w : Word) : Statement (.cpyAbs w) := of_row rfl (rfl : lookup 0xCC = _) rfl rfl
theorem bitZp (z : Byte) : Statement (.bitZp z) := of_row rfl (rfl : lookup 0x24 = _) rfl rfl
theorem bitAbs (w : Word) : Statement (.bitAbs w) := of_row rfl (rfl : lookup 0x2C = _) rfl rfl
theorem bpl (d : Byte) : Statement (.bpl d) := of_row rfl (rfl : lookup 0x10 = _) rfl rfl
theorem bmi (d : Byte) : Statement (.bmi d) := of_row rfl (rfl : lookup 0x30 = _) rfl rfl
theorem bvc (d : Byte) : Statement (.bvc d) := of_row rfl (rfl : lookup 0x50 = _) rfl rfl
theorem bvs (d : Byte) : Statement (.bvs d) := of_row rfl (rfl : lookup 0x70 = _) rfl rfl
theorem bcc (d : Byte) : Statement (.bcc d) := of_row rfl (rfl : lookup 0x90 = _) rfl rfl
theorem bcs (d : Byte) : Statement (.bcs d) := of_row rfl (rfl : lookup 0xB0 = _) rfl rfl
theorem bne (d : Byte) : Statement (.bne d) := of_row rfl (rfl : lookup 0xD0 = _) rfl rfl
theorem beq (d : Byte) : Statement (.beq d) := of_row rfl (rfl : lookup 0xF0 = _) rfl rfl
theorem jmpAbs (w : Word) : Statement (.jmpAbs w) := of_row rfl (rfl : lookup 0x4C = _) rfl rfl
theorem jmpInd (w : Word) : Statement (.jmpInd w) := of_row rfl (rfl : lookup 0x6C = _) rfl rfl
theorem jsr (w : Word) : Statement (.jsr w) := of_row rfl (rfl : lookup 0x20 = _) rfl rfl
theorem rts : Statement (.rts) := of_row rfl (rfl : lookup 0x60 = _) rfl rfl
theorem pha : Statement (.pha) := of_row rfl (rfl : lookup 0x48 = _) rfl rfl
theorem php : Statement (.php) := of_row rfl (rfl : lookup 0x08 = _) rfl rfl
theorem pla : Statement (.pla) := of_row rfl (rfl : lookup 0x68 = _) rfl rfl
theorem plp : Statement (.plp) := of_row rfl (rfl : lookup 0x28 = _) rfl rfl
theorem brk : Statement (.brk) := of_row rfl (rfl : lookup 0x00 = _) rfl rfl
theorem rti : Statement (.rti) := of_row rfl (rfl : lookup 0x40 = _) rfl rfl
theorem tax : Statement (.tax) := of_row rfl (rfl : lookup 0xAA = _) rfl rfl
theorem tay : Statement (.tay) := of_row rfl (rfl : lookup 0xA8 = _) rfl rfl
theorem txa : Statement (.txa) := of_row rfl (rfl : lookup 0x8A = _) rfl rfl
theorem tya : Statement (.tya) := of_row rfl (rfl : lookup 0x98 = _) rfl rfl
theorem tsx : Statement (.tsx) := of_row rfl (rfl : lookup 0xBA = _) rfl rfl
theorem txs : Statement (.txs) := of_row rfl (rfl : lookup 0x9A = _) rfl rfl
theorem clc : Statement (.clc) := of_row rfl (rfl : lookup 0x18 = _) rfl rfl
theorem cld : Statement (.cld) := of_row rfl (rfl : lookup 0xD8 = _) rfl rfl
theorem cli : Statement (.cli) := of_row rfl (rfl : lookup 0x58 = _) rfl rfl
theorem clv : Statement (.clv) := of_row rfl (rfl : lookup 0xB8 = _) rfl rfl
theorem sec : Statement (.sec) := of_row rfl (rfl : lookup 0x38 = _) rfl rfl
theorem sed : Statement (.sed) := of_row rfl (rfl : lookup 0xF8 = _) rfl rfl
theorem sei : Statement (.sei) := of_row rfl (rfl : lookup 0x78 = _) rfl rfl
theorem nop : Statement (.nop) := of_row rfl (rfl : lookup 0xEA = _) rfl rfl

end Sys2Proof.Laws.OpcodeRow
end

