-- ==== Sys2Proof/Laws/Stack.lean ====
section
/-! SUPPORT. The stack and interrupt entry: two and three pushes and pulls in one equation, and everything an interrupt entry
does (R76, R77, R245). -/

namespace Sys2Proof.Machine

open Sys2Proof.Safety

/-- A bus write leaves every other byte as it was. -/
theorem memWrite_read_other {a : Nat} {ea : Word} {v : Byte} {s : State} (h : a ≠ ea.toNat) :
    (memWrite ea v s).mem.read a = s.mem.read a := by
  rw [memWrite_mem]
  split
  · exact Memory.read_write_other h
  · rfl

/-- A write to RAM is read back. -/
theorem memWrite_read_same {ea : Word} {v : Byte} {s : State} (h : kindAt s.busMap ea.toNat = .ram) (hw : s.mem.wf = true) :
    (memWrite ea v s).mem.read ea.toNat = v := by
  rw [memWrite_mem, if_pos h, Memory.read_write_same hw]

/-- A write where there is no RAM changes no byte. -/
theorem memWrite_read_of_not_ram {a : Nat} {ea : Word} {v : Byte} {s : State}
    (h : a = ea.toNat → kindAt s.busMap a ≠ .ram) : (memWrite ea v s).mem.read a = s.mem.read a := by
  by_cases ha : a = ea.toNat
  · rw [memWrite_mem, if_neg (ha ▸ h ha)]
  · exact memWrite_read_other ha

theorem memWrite_wf {ea : Word} {v : Byte} {s : State} (hw : s.mem.wf = true) : (memWrite ea v s).mem.wf = true :=
  (busStep_memWrite ea v s).wf hw

/-- Different stack pointers designate different bytes. -/
theorem stackAddr_toNat_ne {p q : Byte} (h : p ≠ q) : (stackAddr p).toNat ≠ (stackAddr q).toNat :=
  fun e => h (stackAddr_inj.1 (BitVec.eq_of_toNat_eq e))

/-- A word read where no device answers is the word of memory. -/
theorem read16_fst_of_plain {lo hi : Word} {s : State} (hl : kindAt s.busMap lo.toNat ≠ .device)
    (hh : kindAt s.busMap hi.toNat ≠ .device) :
    (read16 lo hi s).1 = joinBytes (s.mem.read hi.toNat) (s.mem.read lo.toNat) := by
  rw [read16_fst, busValue_of_plain hl, busValue_of_plain (s := afterRead lo s) hh, afterRead_mem]

/-- Two pushes. -/
theorem push_push_eq (u v : Byte) (s : State) :
    push v (push u s) = (memWrite (stackAddr (s.sp - 1)) v (memWrite (stackAddr s.sp) u s)).setSp (s.sp - 2) := by
  rw [show s.sp - 2 = s.sp - 1 - 1 by bv_omega]
  rfl

/-- Three pushes. -/
theorem push_push_push_eq (u v w : Byte) (s : State) :
    push w (push v (push u s)) =
      (memWrite (stackAddr (s.sp - 2)) w (memWrite (stackAddr (s.sp - 1)) v (memWrite (stackAddr s.sp) u s))).setSp
        (s.sp - 3) := by
  rw [show s.sp - 3 = s.sp - 1 - 1 - 1 by bv_omega, show s.sp - 2 = s.sp - 1 - 1 by bv_omega]
  rfl

@[simp] theorem stacked_a (b4 : Bool) (s : State) : (stacked b4 s).a = s.a := rfl
@[simp] theorem stacked_x (b4 : Bool) (s : State) : (stacked b4 s).x = s.x := rfl
@[simp] theorem stacked_y (b4 : Bool) (s : State) : (stacked b4 s).y = s.y := rfl
@[simp] theorem stacked_flags (b4 : Bool) (s : State) : (stacked b4 s).flags = s.flags := rfl
@[simp] theorem stacked_busMap (b4 : Bool) (s : State) : (stacked b4 s).busMap = s.busMap := rfl
@[simp] theorem stacked_devicesTouched (b4 : Bool) (s : State) : (stacked b4 s).devicesTouched = s.devicesTouched := rfl
@[simp] theorem stacked_busHistory (b4 : Bool) (s : State) :
    (stacked b4 s).busHistory =
      .write (stackAddr (s.sp - 2)) (pack b4 s.flags) :: .write (stackAddr (s.sp - 1)) (loByte s.pc) ::
        .write (stackAddr s.sp) (hiByte s.pc) :: s.busHistory := rfl

/-- What an interrupt entry leaves: three writes, two reads, and four registers (R245). -/
theorem enterInterrupt_flat (b4 : Bool) (vector : Word) (s : State) :
    enterInterrupt b4 vector s =
      let u := stacked b4 s
      { afterRead (vector + 1) (afterRead vector u) with
        pc := (read16 vector (vector + 1) u).1
        sp := s.sp - 3
        flags := { s.flags with b := b4, i := true } } := by
  rw [stacked, show s.sp - 3 = s.sp - 1 - 1 - 1 by bv_omega, show s.sp - 2 = s.sp - 1 - 1 by bv_omega]
  rfl

/-- A byte outside page 1 is none of the three stacked bytes. -/
theorem stacked_read_outside {a : Nat} (ha : 512 ≤ a) (b4 : Bool) (s : State) :
    (stacked b4 s).mem.read a = s.mem.read a := by
  have h : ∀ k : Byte, a ≠ (stackAddr k).toNat := fun k => by
    have := k.isLt
    rw [stackAddr_toNat]
    omega
  rw [stacked, memWrite_read_other (h _), memWrite_read_other (h _), memWrite_read_other (h _)]

/-- Everything an interrupt entry does, through a vector above page 1 (R245, R250). -/
theorem enterInterrupt_entry {b4 : Bool} {vector : Word} {s : State} (hw : s.mem.wf = true) (hv : 512 ≤ vector.toNat)
    (hv1 : vector.toNat < 65535) : InterruptEntry b4 vector s (enterInterrupt b4 vector s) := by
  have n1 : s.sp ≠ s.sp - 1 := by bv_omega
  have n2 : s.sp ≠ s.sp - 2 := by bv_omega
  have n3 : s.sp - 1 ≠ s.sp - 2 := by bv_omega
  have hv2 : 512 ≤ (vector + 1).toNat := by
    rw [BitVec.toNat_add, show (1 : Word).toNat = 1 from rfl]
    omega
  have hm : (enterInterrupt b4 vector s).mem = (stacked b4 s).mem := by
    rw [enterInterrupt_flat]
    rfl
  unfold InterruptEntry
  rw [hm]
  refine ⟨?_, fun h h1 => ?_, ?_, rfl, rfl, rfl, rfl, fun h => ?_, fun h => ?_, fun h => ?_, fun a h => ?_, ?_⟩
  · rw [enterInterrupt_flat]
    rfl
  · rw [enterInterrupt_flat, ← stacked_read_outside hv b4 s, ← stacked_read_outside hv2 b4 s]
    exact read16_fst_of_plain h h1
  · rw [enterInterrupt_flat]
  · exact (memWrite_read_other (stackAddr_toNat_ne n2)).trans
      ((memWrite_read_other (stackAddr_toNat_ne n1)).trans (memWrite_read_same h hw))
  · exact (memWrite_read_other (stackAddr_toNat_ne n3)).trans (memWrite_read_same h (memWrite_wf hw))
  · exact memWrite_read_same h (memWrite_wf (memWrite_wf hw))
  · rw [stacked]
    refine (memWrite_read_of_not_ram (s := memWrite _ _ (memWrite _ _ s)) fun e => h (.inr (.inr e))).trans ?_
    refine (memWrite_read_of_not_ram (s := memWrite _ _ s) fun e => h (.inr (.inl e))).trans ?_
    exact memWrite_read_of_not_ram fun e => h (.inl e)
  · rw [enterInterrupt_flat]
    rfl

/-- Two pulls. -/
theorem pull_pull_eq (s : State) :
    pull (pull s).2 =
      (busValue (stackAddr (s.sp + 2)) (afterRead (stackAddr (s.sp + 1)) s),
        (afterRead (stackAddr (s.sp + 2)) (afterRead (stackAddr (s.sp + 1)) s)).setSp (s.sp + 2)) := by
  rw [show s.sp + 2 = s.sp + 1 + 1 by bv_omega]
  rfl

/-- What a return from interrupt leaves (R216). -/
theorem returnFromInterrupt_flat (s : State) :
    returnFromInterrupt s =
      let u := afterRead (stackAddr (s.sp + 1)) s
      let frame := read16 (stackAddr (s.sp + 2)) (stackAddr (s.sp + 3)) u
      { frame.2 with
        pc := frame.1
        sp := s.sp + 3
        flags := unpack (busValue (stackAddr (s.sp + 1)) s) s.flags } := by
  rw [show s.sp + 3 = s.sp + 1 + 1 + 1 by bv_omega, show s.sp + 2 = s.sp + 1 + 1 by bv_omega]
  rfl

/-! The registers an interrupt entry and a return leave. -/

@[simp] theorem enterInterrupt_a (b4 : Bool) (vector : Word) (s : State) : (enterInterrupt b4 vector s).a = s.a := rfl
@[simp] theorem enterInterrupt_x (b4 : Bool) (vector : Word) (s : State) : (enterInterrupt b4 vector s).x = s.x := rfl
@[simp] theorem enterInterrupt_y (b4 : Bool) (vector : Word) (s : State) : (enterInterrupt b4 vector s).y = s.y := rfl
@[simp] theorem enterInterrupt_sp (b4 : Bool) (vector : Word) (s : State) : (enterInterrupt b4 vector s).sp = s.sp - 3 := by
  rw [enterInterrupt_flat]
@[simp] theorem enterInterrupt_flags (b4 : Bool) (vector : Word) (s : State) :
    (enterInterrupt b4 vector s).flags = { s.flags with b := b4, i := true } := rfl
@[simp] theorem returnFromInterrupt_a (s : State) : (returnFromInterrupt s).a = s.a := rfl
@[simp] theorem returnFromInterrupt_x (s : State) : (returnFromInterrupt s).x = s.x := rfl
@[simp] theorem returnFromInterrupt_y (s : State) : (returnFromInterrupt s).y = s.y := rfl
@[simp] theorem returnFromInterrupt_mem (s : State) : (returnFromInterrupt s).mem = s.mem := rfl
@[simp] theorem returnFromInterrupt_sp (s : State) : (returnFromInterrupt s).sp = s.sp + 3 := by
  rw [returnFromInterrupt_flat]
@[simp] theorem returnFromInterrupt_flags (s : State) :
    (returnFromInterrupt s).flags = unpack (busValue (stackAddr (s.sp + 1)) s) s.flags := rfl

end Sys2Proof.Machine
end

