-- ==== Sys2Proof/Laws/Shape.lean ====
section
/-! SUPPORT. The shape of every instruction's meaning, said once: it reads its operand, stores, reads and rewrites, branches, or
finishes a change of registers, stack and PC (R113, R160, R190). Claims about all instructions go by these five cases. -/

namespace Sys2Proof.Machine

open Sys2Proof.Safety

/-- Registers and flags alone differ. -/
structure OnlyRegisters (s t : State) : Prop where
  outside : SameOutside s t
  mem : t.mem = s.mem
  history : t.busHistory = s.busHistory

theorem OnlyRegisters.busStep {s t : State} (h : OnlyRegisters s t) : BusStep s t := .of_eq h.outside h.mem h.history

/-- The five shapes. -/
inductive Shape (i : Instr) : Prop where
  | reads (effect : Byte → State → State) (src : Source) (base : Nat) (hb : base ≤ 6)
      (he : ∀ m s, OnlyRegisters s (effect m s)) (h : ∀ s, exec i s = readClass effect src base s)
  | stores (v : State → Byte) (a : Addr) (base : Nat) (hb : base ≤ 7) (h : ∀ s, exec i s = store (v s) a base s)
  | modifies (op : Byte → Flags → Byte × Flags) (tg : Target) (base : Nat) (hb : base ≤ 7)
      (h : ∀ s, exec i s = modify op tg base s)
  | branches (c : Flags → Bool) (d : Byte) (h : ∀ s, exec i s = branch (c s.flags) d 2 s)
  | finishes (f : State → State) (n : Nat) (hn : n ≤ 7) (hf : ∀ s, BusStep s (f s)) (h : ∀ s, exec i s = finish n (f s))

theorem ldaEffect_onlyRegisters (m : Byte) (s : State) : OnlyRegisters s (ldaEffect m s) := ⟨sameOutside_refl s, rfl, rfl⟩
theorem ldxEffect_onlyRegisters (m : Byte) (s : State) : OnlyRegisters s (ldxEffect m s) := ⟨sameOutside_refl s, rfl, rfl⟩
theorem ldyEffect_onlyRegisters (m : Byte) (s : State) : OnlyRegisters s (ldyEffect m s) := ⟨sameOutside_refl s, rfl, rfl⟩
theorem adcEffect_onlyRegisters (m : Byte) (s : State) : OnlyRegisters s (adcEffect m s) := ⟨sameOutside_refl s, rfl, rfl⟩
theorem sbcEffect_onlyRegisters (m : Byte) (s : State) : OnlyRegisters s (sbcEffect m s) := ⟨sameOutside_refl s, rfl, rfl⟩
theorem andEffect_onlyRegisters (m : Byte) (s : State) : OnlyRegisters s (andEffect m s) := ⟨sameOutside_refl s, rfl, rfl⟩
theorem oraEffect_onlyRegisters (m : Byte) (s : State) : OnlyRegisters s (oraEffect m s) := ⟨sameOutside_refl s, rfl, rfl⟩
theorem eorEffect_onlyRegisters (m : Byte) (s : State) : OnlyRegisters s (eorEffect m s) := ⟨sameOutside_refl s, rfl, rfl⟩
theorem cmpEffect_onlyRegisters (m : Byte) (s : State) : OnlyRegisters s (cmpEffect m s) := ⟨sameOutside_refl s, rfl, rfl⟩
theorem cpxEffect_onlyRegisters (m : Byte) (s : State) : OnlyRegisters s (cpxEffect m s) := ⟨sameOutside_refl s, rfl, rfl⟩
theorem cpyEffect_onlyRegisters (m : Byte) (s : State) : OnlyRegisters s (cpyEffect m s) := ⟨sameOutside_refl s, rfl, rfl⟩
theorem bitEffect_onlyRegisters (m : Byte) (s : State) : OnlyRegisters s (bitEffect m s) := ⟨sameOutside_refl s, rfl, rfl⟩

/-- A change of registers alone, finished. -/
theorem Shape.ofRegisters {i : Instr} (f : State → State) (n : Nat) (hn : n ≤ 7) (hf : ∀ s, OnlyRegisters s (f s))
    (h : ∀ s, exec i s = finish n (f s)) : Shape i := .finishes f n hn (fun s => (hf s).busStep) h

/-- Every instruction has one of the shapes. -/
theorem exec_shape (i : Instr) : Shape i :=
  match i with
  | .ldaImm v => .reads ldaEffect (.imm v) 2 (by decide) ldaEffect_onlyRegisters fun _ => rfl
  | .ldaZp z => .reads ldaEffect (.mem (.zp z)) 3 (by decide) ldaEffect_onlyRegisters fun _ => rfl
  | .ldaZpx z => .reads ldaEffect (.mem (.zpx z)) 4 (by decide) ldaEffect_onlyRegisters fun _ => rfl
  | .ldaAbs w => .reads ldaEffect (.mem (.abs w)) 4 (by decide) ldaEffect_onlyRegisters fun _ => rfl
  | .ldaAbsx w => .reads ldaEffect (.mem (.absx w)) 4 (by decide) ldaEffect_onlyRegisters fun _ => rfl
  | .ldaAbsy w => .reads ldaEffect (.mem (.absy w)) 4 (by decide) ldaEffect_onlyRegisters fun _ => rfl
  | .ldaIzx z => .reads ldaEffect (.mem (.izx z)) 6 (by decide) ldaEffect_onlyRegisters fun _ => rfl
  | .ldaIzy z => .reads ldaEffect (.mem (.izy z)) 5 (by decide) ldaEffect_onlyRegisters fun _ => rfl
  | .ldxImm v => .reads ldxEffect (.imm v) 2 (by decide) ldxEffect_onlyRegisters fun _ => rfl
  | .ldxZp z => .reads ldxEffect (.mem (.zp z)) 3 (by decide) ldxEffect_onlyRegisters fun _ => rfl
  | .ldxZpy z => .reads ldxEffect (.mem (.zpy z)) 4 (by decide) ldxEffect_onlyRegisters fun _ => rfl
  | .ldxAbs w => .reads ldxEffect (.mem (.abs w)) 4 (by decide) ldxEffect_onlyRegisters fun _ => rfl
  | .ldxAbsy w => .reads ldxEffect (.mem (.absy w)) 4 (by decide) ldxEffect_onlyRegisters fun _ => rfl
  | .ldyImm v => .reads ldyEffect (.imm v) 2 (by decide) ldyEffect_onlyRegisters fun _ => rfl
  | .ldyZp z => .reads ldyEffect (.mem (.zp z)) 3 (by decide) ldyEffect_onlyRegisters fun _ => rfl
  | .ldyZpx z => .reads ldyEffect (.mem (.zpx z)) 4 (by decide) ldyEffect_onlyRegisters fun _ => rfl
  | .ldyAbs w => .reads ldyEffect (.mem (.abs w)) 4 (by decide) ldyEffect_onlyRegisters fun _ => rfl
  | .ldyAbsx w => .reads ldyEffect (.mem (.absx w)) 4 (by decide) ldyEffect_onlyRegisters fun _ => rfl
  | .staZp z => .stores State.a (.zp z) 3 (by decide) fun _ => rfl
  | .staZpx z => .stores State.a (.zpx z) 4 (by decide) fun _ => rfl
  | .staAbs w => .stores State.a (.abs w) 4 (by decide) fun _ => rfl
  | .staAbsx w => .stores State.a (.absx w) 5 (by decide) fun _ => rfl
  | .staAbsy w => .stores State.a (.absy w) 5 (by decide) fun _ => rfl
  | .staIzx z => .stores State.a (.izx z) 6 (by decide) fun _ => rfl
  | .staIzy z => .stores State.a (.izy z) 6 (by decide) fun _ => rfl
  | .stxZp z => .stores State.x (.zp z) 3 (by decide) fun _ => rfl
  | .stxZpy z => .stores State.x (.zpy z) 4 (by decide) fun _ => rfl
  | .stxAbs w => .stores State.x (.abs w) 4 (by decide) fun _ => rfl
  | .styZp z => .stores State.y (.zp z) 3 (by decide) fun _ => rfl
  | .styZpx z => .stores State.y (.zpx z) 4 (by decide) fun _ => rfl
  | .styAbs w => .stores State.y (.abs w) 4 (by decide) fun _ => rfl
  | .adcImm v => .reads adcEffect (.imm v) 2 (by decide) adcEffect_onlyRegisters fun _ => rfl
  | .adcZp z => .reads adcEffect (.mem (.zp z)) 3 (by decide) adcEffect_onlyRegisters fun _ => rfl
  | .adcZpx z => .reads adcEffect (.mem (.zpx z)) 4 (by decide) adcEffect_onlyRegisters fun _ => rfl
  | .adcAbs w => .reads adcEffect (.mem (.abs w)) 4 (by decide) adcEffect_onlyRegisters fun _ => rfl
  | .adcAbsx w => .reads adcEffect (.mem (.absx w)) 4 (by decide) adcEffect_onlyRegisters fun _ => rfl
  | .adcAbsy w => .reads adcEffect (.mem (.absy w)) 4 (by decide) adcEffect_onlyRegisters fun _ => rfl
  | .adcIzx z => .reads adcEffect (.mem (.izx z)) 6 (by decide) adcEffect_onlyRegisters fun _ => rfl
  | .adcIzy z => .reads adcEffect (.mem (.izy z)) 5 (by decide) adcEffect_onlyRegisters fun _ => rfl
  | .sbcImm v => .reads sbcEffect (.imm v) 2 (by decide) sbcEffect_onlyRegisters fun _ => rfl
  | .sbcZp z => .reads sbcEffect (.mem (.zp z)) 3 (by decide) sbcEffect_onlyRegisters fun _ => rfl
  | .sbcZpx z => .reads sbcEffect (.mem (.zpx z)) 4 (by decide) sbcEffect_onlyRegisters fun _ => rfl
  | .sbcAbs w => .reads sbcEffect (.mem (.abs w)) 4 (by decide) sbcEffect_onlyRegisters fun _ => rfl
  | .sbcAbsx w => .reads sbcEffect (.mem (.absx w)) 4 (by decide) sbcEffect_onlyRegisters fun _ => rfl
  | .sbcAbsy w => .reads sbcEffect (.mem (.absy w)) 4 (by decide) sbcEffect_onlyRegisters fun _ => rfl
  | .sbcIzx z => .reads sbcEffect (.mem (.izx z)) 6 (by decide) sbcEffect_onlyRegisters fun _ => rfl
  | .sbcIzy z => .reads sbcEffect (.mem (.izy z)) 5 (by decide) sbcEffect_onlyRegisters fun _ => rfl
  | .andImm v => .reads andEffect (.imm v) 2 (by decide) andEffect_onlyRegisters fun _ => rfl
  | .andZp z => .reads andEffect (.mem (.zp z)) 3 (by decide) andEffect_onlyRegisters fun _ => rfl
  | .andZpx z => .reads andEffect (.mem (.zpx z)) 4 (by decide) andEffect_onlyRegisters fun _ => rfl
  | .andAbs w => .reads andEffect (.mem (.abs w)) 4 (by decide) andEffect_onlyRegisters fun _ => rfl
  | .andAbsx w => .reads andEffect (.mem (.absx w)) 4 (by decide) andEffect_onlyRegisters fun _ => rfl
  | .andAbsy w => .reads andEffect (.mem (.absy w)) 4 (by decide) andEffect_onlyRegisters fun _ => rfl
  | .andIzx z => .reads andEffect (.mem (.izx z)) 6 (by decide) andEffect_onlyRegisters fun _ => rfl
  | .andIzy z => .reads andEffect (.mem (.izy z)) 5 (by decide) andEffect_onlyRegisters fun _ => rfl
  | .oraImm v => .reads oraEffect (.imm v) 2 (by decide) oraEffect_onlyRegisters fun _ => rfl
  | .oraZp z => .reads oraEffect (.mem (.zp z)) 3 (by decide) oraEffect_onlyRegisters fun _ => rfl
  | .oraZpx z => .reads oraEffect (.mem (.zpx z)) 4 (by decide) oraEffect_onlyRegisters fun _ => rfl
  | .oraAbs w => .reads oraEffect (.mem (.abs w)) 4 (by decide) oraEffect_onlyRegisters fun _ => rfl
  | .oraAbsx w => .reads oraEffect (.mem (.absx w)) 4 (by decide) oraEffect_onlyRegisters fun _ => rfl
  | .oraAbsy w => .reads oraEffect (.mem (.absy w)) 4 (by decide) oraEffect_onlyRegisters fun _ => rfl
  | .oraIzx z => .reads oraEffect (.mem (.izx z)) 6 (by decide) oraEffect_onlyRegisters fun _ => rfl
  | .oraIzy z => .reads oraEffect (.mem (.izy z)) 5 (by decide) oraEffect_onlyRegisters fun _ => rfl
  | .eorImm v => .reads eorEffect (.imm v) 2 (by decide) eorEffect_onlyRegisters fun _ => rfl
  | .eorZp z => .reads eorEffect (.mem (.zp z)) 3 (by decide) eorEffect_onlyRegisters fun _ => rfl
  | .eorZpx z => .reads eorEffect (.mem (.zpx z)) 4 (by decide) eorEffect_onlyRegisters fun _ => rfl
  | .eorAbs w => .reads eorEffect (.mem (.abs w)) 4 (by decide) eorEffect_onlyRegisters fun _ => rfl
  | .eorAbsx w => .reads eorEffect (.mem (.absx w)) 4 (by decide) eorEffect_onlyRegisters fun _ => rfl
  | .eorAbsy w => .reads eorEffect (.mem (.absy w)) 4 (by decide) eorEffect_onlyRegisters fun _ => rfl
  | .eorIzx z => .reads eorEffect (.mem (.izx z)) 6 (by decide) eorEffect_onlyRegisters fun _ => rfl
  | .eorIzy z => .reads eorEffect (.mem (.izy z)) 5 (by decide) eorEffect_onlyRegisters fun _ => rfl
  | .aslAcc => .modifies aslOp .acc 2 (by decide) fun _ => rfl
  | .aslZp z => .modifies aslOp (.mem (.zp z)) 5 (by decide) fun _ => rfl
  | .aslZpx z => .modifies aslOp (.mem (.zpx z)) 6 (by decide) fun _ => rfl
  | .aslAbs w => .modifies aslOp (.mem (.abs w)) 6 (by decide) fun _ => rfl
  | .aslAbsx w => .modifies aslOp (.mem (.absx w)) 7 (by decide) fun _ => rfl
  | .lsrAcc => .modifies lsrOp .acc 2 (by decide) fun _ => rfl
  | .lsrZp z => .modifies lsrOp (.mem (.zp z)) 5 (by decide) fun _ => rfl
  | .lsrZpx z => .modifies lsrOp (.mem (.zpx z)) 6 (by decide) fun _ => rfl
  | .lsrAbs w => .modifies lsrOp (.mem (.abs w)) 6 (by decide) fun _ => rfl
  | .lsrAbsx w => .modifies lsrOp (.mem (.absx w)) 7 (by decide) fun _ => rfl
  | .rolAcc => .modifies rolOp .acc 2 (by decide) fun _ => rfl
  | .rolZp z => .modifies rolOp (.mem (.zp z)) 5 (by decide) fun _ => rfl
  | .rolZpx z => .modifies rolOp (.mem (.zpx z)) 6 (by decide) fun _ => rfl
  | .rolAbs w => .modifies rolOp (.mem (.abs w)) 6 (by decide) fun _ => rfl
  | .rolAbsx w => .modifies rolOp (.mem (.absx w)) 7 (by decide) fun _ => rfl
  | .rorAcc => .modifies rorOp .acc 2 (by decide) fun _ => rfl
  | .rorZp z => .modifies rorOp (.mem (.zp z)) 5 (by decide) fun _ => rfl
  | .rorZpx z => .modifies rorOp (.mem (.zpx z)) 6 (by decide) fun _ => rfl
  | .rorAbs w => .modifies rorOp (.mem (.abs w)) 6 (by decide) fun _ => rfl
  | .rorAbsx w => .modifies rorOp (.mem (.absx w)) 7 (by decide) fun _ => rfl
  | .incZp z => .modifies incOp (.mem (.zp z)) 5 (by decide) fun _ => rfl
  | .incZpx z => .modifies incOp (.mem (.zpx z)) 6 (by decide) fun _ => rfl
  | .incAbs w => .modifies incOp (.mem (.abs w)) 6 (by decide) fun _ => rfl
  | .incAbsx w => .modifies incOp (.mem (.absx w)) 7 (by decide) fun _ => rfl
  | .decZp z => .modifies decOp (.mem (.zp z)) 5 (by decide) fun _ => rfl
  | .decZpx z => .modifies decOp (.mem (.zpx z)) 6 (by decide) fun _ => rfl
  | .decAbs w => .modifies decOp (.mem (.abs w)) 6 (by decide) fun _ => rfl
  | .decAbsx w => .modifies decOp (.mem (.absx w)) 7 (by decide) fun _ => rfl
  | .inx => .ofRegisters (fun s => ((s.setX (s.x + 1)).updateZN (s.x + 1))) 2 (by decide) (fun s => ⟨sameOutside_refl s, rfl, rfl⟩) fun _ => rfl
  | .iny => .ofRegisters (fun s => ((s.setY (s.y + 1)).updateZN (s.y + 1))) 2 (by decide) (fun s => ⟨sameOutside_refl s, rfl, rfl⟩) fun _ => rfl
  | .dex => .ofRegisters (fun s => ((s.setX (s.x - 1)).updateZN (s.x - 1))) 2 (by decide) (fun s => ⟨sameOutside_refl s, rfl, rfl⟩) fun _ => rfl
  | .dey => .ofRegisters (fun s => ((s.setY (s.y - 1)).updateZN (s.y - 1))) 2 (by decide) (fun s => ⟨sameOutside_refl s, rfl, rfl⟩) fun _ => rfl
  | .cmpImm v => .reads cmpEffect (.imm v) 2 (by decide) cmpEffect_onlyRegisters fun _ => rfl
  | .cmpZp z => .reads cmpEffect (.mem (.zp z)) 3 (by decide) cmpEffect_onlyRegisters fun _ => rfl
  | .cmpZpx z => .reads cmpEffect (.mem (.zpx z)) 4 (by decide) cmpEffect_onlyRegisters fun _ => rfl
  | .cmpAbs w => .reads cmpEffect (.mem (.abs w)) 4 (by decide) cmpEffect_onlyRegisters fun _ => rfl
  | .cmpAbsx w => .reads cmpEffect (.mem (.absx w)) 4 (by decide) cmpEffect_onlyRegisters fun _ => rfl
  | .cmpAbsy w => .reads cmpEffect (.mem (.absy w)) 4 (by decide) cmpEffect_onlyRegisters fun _ => rfl
  | .cmpIzx z => .reads cmpEffect (.mem (.izx z)) 6 (by decide) cmpEffect_onlyRegisters fun _ => rfl
  | .cmpIzy z => .reads cmpEffect (.mem (.izy z)) 5 (by decide) cmpEffect_onlyRegisters fun _ => rfl
  | .cpxImm v => .reads cpxEffect (.imm v) 2 (by decide) cpxEffect_onlyRegisters fun _ => rfl
  | .cpxZp z => .reads cpxEffect (.mem (.zp z)) 3 (by decide) cpxEffect_onlyRegisters fun _ => rfl
  | .cpxAbs w => .reads cpxEffect (.mem (.abs w)) 4 (by decide) cpxEffect_onlyRegisters fun _ => rfl
  | .cpyImm v => .reads cpyEffect (.imm v) 2 (by decide) cpyEffect_onlyRegisters fun _ => rfl
  | .cpyZp z => .reads cpyEffect (.mem (.zp z)) 3 (by decide) cpyEffect_onlyRegisters fun _ => rfl
  | .cpyAbs w => .reads cpyEffect (.mem (.abs w)) 4 (by decide) cpyEffect_onlyRegisters fun _ => rfl
  | .bitZp z => .reads bitEffect (.mem (.zp z)) 3 (by decide) bitEffect_onlyRegisters fun _ => rfl
  | .bitAbs w => .reads bitEffect (.mem (.abs w)) 4 (by decide) bitEffect_onlyRegisters fun _ => rfl
  | .bpl d => .branches (fun f => !f.n) d fun _ => rfl
  | .bmi d => .branches (fun f => f.n) d fun _ => rfl
  | .bvc d => .branches (fun f => !f.v) d fun _ => rfl
  | .bvs d => .branches (fun f => f.v) d fun _ => rfl
  | .bcc d => .branches (fun f => !f.c) d fun _ => rfl
  | .bcs d => .branches (fun f => f.c) d fun _ => rfl
  | .bne d => .branches (fun f => !f.z) d fun _ => rfl
  | .beq d => .branches (fun f => f.z) d fun _ => rfl
  | .jmpAbs w => .ofRegisters (fun s => s.setPc w) 3 (by decide) (fun s => ⟨sameOutside_refl s, rfl, rfl⟩) fun _ => rfl
  | .jmpInd w => .finishes (fun s => (resolveInd w s).st.setPc (resolveInd w s).ea) 5 (by decide)
    (fun s => (busStep_resolveInd w s).trans (busStep_setPc _ _)) fun _ => rfl
  | .jsr w => .finishes (fun s => (push (loByte (s.pc - 1)) (push (hiByte (s.pc - 1)) s)).setPc w) 6 (by decide)
    (fun s => ((busStep_push _ s).trans (busStep_push _ _)).trans (busStep_setPc _ _)) fun _ => rfl
  | .rts => .finishes (fun s => (pull (pull s).2).2.setPc (joinBytes (pull (pull s).2).1 (pull s).1 + 1)) 6 (by decide)
    (fun s => ((busStep_pull s).trans (busStep_pull _)).trans (busStep_setPc _ _)) fun _ => rfl
  | .pha => .finishes (fun s => push s.a s) 3 (by decide) (fun s => busStep_push _ s) fun _ => rfl
  | .php => .finishes (fun s => push (pack true s.flags) s) 3 (by decide) (fun s => busStep_push _ s) fun _ => rfl
  | .pla => .finishes (fun s => ((pull s).2.setA (pull s).1).updateZN (pull s).1) 4 (by decide)
    (fun s => ((busStep_pull s).trans (busStep_setA _ _)).trans (busStep_updateZN _ _)) fun _ => rfl
  | .plp => .finishes (fun s => (pull s).2.setFlags (unpack (pull s).1 (pull s).2.flags)) 4 (by decide)
    (fun s => (busStep_pull s).trans (busStep_setFlags _ _)) fun _ => rfl
  | .brk => .finishes (fun s => enterInterrupt true irqVector (s.setPc (s.pc + 1))) 7 (by decide)
    (fun s => (busStep_setPc s _).trans (busStep_enterInterrupt _ _ _)) fun _ => rfl
  | .rti => .finishes returnFromInterrupt 6 (by decide) busStep_returnFromInterrupt fun _ => rfl
  | .tax => .ofRegisters (fun s => ((s.setX s.a).updateZN s.a)) 2 (by decide) (fun s => ⟨sameOutside_refl s, rfl, rfl⟩) fun _ => rfl
  | .tay => .ofRegisters (fun s => ((s.setY s.a).updateZN s.a)) 2 (by decide) (fun s => ⟨sameOutside_refl s, rfl, rfl⟩) fun _ => rfl
  | .txa => .ofRegisters (fun s => ((s.setA s.x).updateZN s.x)) 2 (by decide) (fun s => ⟨sameOutside_refl s, rfl, rfl⟩) fun _ => rfl
  | .tya => .ofRegisters (fun s => ((s.setA s.y).updateZN s.y)) 2 (by decide) (fun s => ⟨sameOutside_refl s, rfl, rfl⟩) fun _ => rfl
  | .tsx => .ofRegisters (fun s => ((s.setX s.sp).updateZN s.sp)) 2 (by decide) (fun s => ⟨sameOutside_refl s, rfl, rfl⟩) fun _ => rfl
  | .txs => .ofRegisters (fun s => (s.setSp s.x)) 2 (by decide) (fun s => ⟨sameOutside_refl s, rfl, rfl⟩) fun _ => rfl
  | .clc => .ofRegisters (fun s => (s.setFlags { s.flags with c := false })) 2 (by decide) (fun s => ⟨sameOutside_refl s, rfl, rfl⟩) fun _ => rfl
  | .cld => .ofRegisters (fun s => (s.setFlags { s.flags with d := false })) 2 (by decide) (fun s => ⟨sameOutside_refl s, rfl, rfl⟩) fun _ => rfl
  | .cli => .ofRegisters (fun s => (s.setFlags { s.flags with i := false })) 2 (by decide) (fun s => ⟨sameOutside_refl s, rfl, rfl⟩) fun _ => rfl
  | .clv => .ofRegisters (fun s => (s.setFlags { s.flags with v := false })) 2 (by decide) (fun s => ⟨sameOutside_refl s, rfl, rfl⟩) fun _ => rfl
  | .sec => .ofRegisters (fun s => (s.setFlags { s.flags with c := true })) 2 (by decide) (fun s => ⟨sameOutside_refl s, rfl, rfl⟩) fun _ => rfl
  | .sed => .ofRegisters (fun s => (s.setFlags { s.flags with d := true })) 2 (by decide) (fun s => ⟨sameOutside_refl s, rfl, rfl⟩) fun _ => rfl
  | .sei => .ofRegisters (fun s => (s.setFlags { s.flags with i := true })) 2 (by decide) (fun s => ⟨sameOutside_refl s, rfl, rfl⟩) fun _ => rfl
  | .nop => .ofRegisters (fun s => s) 2 (by decide) (fun s => ⟨sameOutside_refl s, rfl, rfl⟩) fun _ => rfl

/-- Whatever an instruction does, it does by accounted bus accesses and register writes alone. -/
theorem exec_busStep {i : Instr} {s t : State} (h : exec i s = .next t) : BusStep s t := by
  cases exec_shape i with
  | reads e src base _ he hs => exact busStep_readClass (fun m u => (he m u).busStep) (hs s ▸ h)
  | stores v a base _ hs => exact busStep_store (hs s ▸ h)
  | modifies op tg base _ hs => exact busStep_modify (hs s ▸ h)
  | branches c d hs => exact busStep_branch (hs s ▸ h)
  | finishes f n _ hf hs => exact busStep_finish (hf s) (hs s ▸ h)

end Sys2Proof.Machine
end

