-- ==== Sys2Proof/Tests/Slice0.lean ====
section
/-! SUPPORT. The model's own tests: expected values are those of spec/95_test_vectors.md and the words of section 5 of
spec/30_encoding.md; and for every obligation with hypotheses a witness that meets them. -/

namespace Sys2Proof.Tests.Slice0

open Sys2Proof.Machine Sys2Proof.Safety

/-- A machine about to dispatch at `pc`, as after reset (I set, SP 0xFD, A, X, Y 0x00), with the given bytes in memory. -/
def place (pc : Word) (bytes : List (Word × Byte)) : State :=
  { State.reset with
    pc := pc
    cyc := 0
    busHistory := []
    mem := bytes.foldl (fun m b => m.write b.1.toNat b.2) [] }

/-- What is seen of the next state, if there is one. -/
def observe {α : Type} (s : State) (f : State → α) : Option α :=
  match step s with
  | .next t => some (f t)
  | .fault _ => none
  | .refused _ => none

/-- The instruction at the front of some bytes. -/
def front (bytes : List Byte) : Option Instr :=
  match decode bytes with
  | .ok (i, _) => some i
  | .error _ => none

/-! WellFormed: for every mnemonic's list of modes, a form outside it is refused. -/

theorem test_loads_refuse :
    (AsmForm.mk .lda (.mem (.zpy 0x10))).wellFormed = false ∧ (AsmForm.mk .ldx (.mem (.zpx 0x10))).wellFormed = false ∧
      (AsmForm.mk .ldy (.mem (.absy 0x0300))).wellFormed = false := by decide
theorem test_stores_refuse :
    (AsmForm.mk .sta (.imm 0x10)).wellFormed = false ∧ (AsmForm.mk .stx (.mem (.absy 0x0300))).wellFormed = false ∧
      (AsmForm.mk .sty (.mem (.zpy 0x10))).wellFormed = false := by decide
theorem test_arithmetic_refuses :
    ([.adc, .sbc, .and, .ora, .eor, .cmp] : List Mnemonic).all (fun m => !(AsmForm.mk m .acc).wellFormed) = true := by decide
theorem test_modify_refuses :
    ([.asl, .lsr, .rol, .ror] : List Mnemonic).all (fun m => !(AsmForm.mk m (.mem (.izx 0x10))).wellFormed) = true ∧
      ([.inc, .dec] : List Mnemonic).all (fun m => !(AsmForm.mk m .acc).wellFormed) = true := by decide
theorem test_compare_refuses :
    ([.cpx, .cpy] : List Mnemonic).all (fun m => !(AsmForm.mk m (.mem (.zpx 0x10))).wellFormed) = true ∧
      (AsmForm.mk .bit (.imm 0x10)).wellFormed = false := by decide
theorem test_control_refuses :
    ([.bpl, .bmi, .bvc, .bvs, .bcc, .bcs, .bne, .beq] : List Mnemonic).all
        (fun m => !(AsmForm.mk m (.mem (.abs 0x0300))).wellFormed) = true ∧
      (AsmForm.mk .jmp (.rel 0x10)).wellFormed = false ∧ (AsmForm.mk .jsr (.ind 0x0300)).wellFormed = false := by decide
theorem test_implied_refuse :
    ([.inx, .iny, .dex, .dey, .rts, .pha, .php, .pla, .plp, .brk, .rti, .tax, .tay, .txa, .tya, .tsx, .txs, .clc, .cld, .cli,
        .clv, .sec, .sed, .sei, .nop] : List Mnemonic).all (fun m => !(AsmForm.mk m (.imm 0x10)).wellFormed) = true := by decide

/-- A branch reaches −128..127 from the instruction after it and no farther (R118). -/
theorem test_branch_reach :
    branchDisplacement 0x0200 0x0281 = some 0x7F ∧ branchDisplacement 0x0200 0x0282 = none ∧
      branchDisplacement 0x0200 0x0182 = some 0x80 ∧ branchDisplacement 0x0200 0x0181 = none ∧
      branchDisplacement 0xC008 0xC005 = some 0xFB := by decide

/-- The syntax of rule R118, as section 5.2 and L3 write it. -/
theorem test_text :
    (Instr.ldaIzy 0x10).text 0xC00E = "LDA ($10),Y".toList ∧ (Instr.jmpInd 0x02FF).text 0x0400 = "JMP ($02FF)".toList ∧
      (Instr.bne 0xFB).text 0xC008 = "BNE $C005".toList ∧ Instr.aslAcc.text 0 = "ASL A".toList ∧
      (Instr.ldxImm 0x05).text 0 = "LDX #$05".toList := by decide

/-! Decoding: every row of section 5.2, its operand bytes 0x8F, or 0x34 0xA2 for the word 0xA234. -/

theorem test_decode_0 :
    ([[0x00], [0x01, 0x8F], [0x05, 0x8F], [0x06, 0x8F], [0x08], [0x09, 0x8F], [0x0A], [0x0D, 0x34, 0xA2], [0x0E, 0x34, 0xA2]] : List (List Byte)).map front =
      [some .brk, some (.oraIzx 0x8F), some (.oraZp 0x8F), some (.aslZp 0x8F), some .php, some (.oraImm 0x8F), some .aslAcc, some (.oraAbs 0xA234), some (.aslAbs 0xA234)] := by decide

theorem test_decode_1 :
    ([[0x10, 0x8F], [0x11, 0x8F], [0x15, 0x8F], [0x16, 0x8F], [0x18], [0x19, 0x34, 0xA2], [0x1D, 0x34, 0xA2], [0x1E, 0x34, 0xA2]] : List (List Byte)).map front =
      [some (.bpl 0x8F), some (.oraIzy 0x8F), some (.oraZpx 0x8F), some (.aslZpx 0x8F), some .clc, some (.oraAbsy 0xA234), some (.oraAbsx 0xA234), some (.aslAbsx 0xA234)] := by decide

theorem test_decode_2 :
    ([[0x20, 0x34, 0xA2], [0x21, 0x8F], [0x24, 0x8F], [0x25, 0x8F], [0x26, 0x8F], [0x28], [0x29, 0x8F], [0x2A], [0x2C, 0x34, 0xA2], [0x2D, 0x34, 0xA2], [0x2E, 0x34, 0xA2]] : List (List Byte)).map front =
      [some (.jsr 0xA234), some (.andIzx 0x8F), some (.bitZp 0x8F), some (.andZp 0x8F), some (.rolZp 0x8F), some .plp, some (.andImm 0x8F), some .rolAcc, some (.bitAbs 0xA234), some (.andAbs 0xA234), some (.rolAbs 0xA234)] := by decide

theorem test_decode_3 :
    ([[0x30, 0x8F], [0x31, 0x8F], [0x35, 0x8F], [0x36, 0x8F], [0x38], [0x39, 0x34, 0xA2], [0x3D, 0x34, 0xA2], [0x3E, 0x34, 0xA2]] : List (List Byte)).map front =
      [some (.bmi 0x8F), some (.andIzy 0x8F), some (.andZpx 0x8F), some (.rolZpx 0x8F), some .sec, some (.andAbsy 0xA234), some (.andAbsx 0xA234), some (.rolAbsx 0xA234)] := by decide

theorem test_decode_4 :
    ([[0x40], [0x41, 0x8F], [0x45, 0x8F], [0x46, 0x8F], [0x48], [0x49, 0x8F], [0x4A], [0x4C, 0x34, 0xA2], [0x4D, 0x34, 0xA2], [0x4E, 0x34, 0xA2]] : List (List Byte)).map front =
      [some .rti, some (.eorIzx 0x8F), some (.eorZp 0x8F), some (.lsrZp 0x8F), some .pha, some (.eorImm 0x8F), some .lsrAcc, some (.jmpAbs 0xA234), some (.eorAbs 0xA234), some (.lsrAbs 0xA234)] := by decide

theorem test_decode_5 :
    ([[0x50, 0x8F], [0x51, 0x8F], [0x55, 0x8F], [0x56, 0x8F], [0x58], [0x59, 0x34, 0xA2], [0x5D, 0x34, 0xA2], [0x5E, 0x34, 0xA2]] : List (List Byte)).map front =
      [some (.bvc 0x8F), some (.eorIzy 0x8F), some (.eorZpx 0x8F), some (.lsrZpx 0x8F), some .cli, some (.eorAbsy 0xA234), some (.eorAbsx 0xA234), some (.lsrAbsx 0xA234)] := by decide

theorem test_decode_6 :
    ([[0x60], [0x61, 0x8F], [0x65, 0x8F], [0x66, 0x8F], [0x68], [0x69, 0x8F], [0x6A], [0x6C, 0x34, 0xA2], [0x6D, 0x34, 0xA2], [0x6E, 0x34, 0xA2]] : List (List Byte)).map front =
      [some .rts, some (.adcIzx 0x8F), some (.adcZp 0x8F), some (.rorZp 0x8F), some .pla, some (.adcImm 0x8F), some .rorAcc, some (.jmpInd 0xA234), some (.adcAbs 0xA234), some (.rorAbs 0xA234)] := by decide

theorem test_decode_7 :
    ([[0x70, 0x8F], [0x71, 0x8F], [0x75, 0x8F], [0x76, 0x8F], [0x78], [0x79, 0x34, 0xA2], [0x7D, 0x34, 0xA2], [0x7E, 0x34, 0xA2]] : List (List Byte)).map front =
      [some (.bvs 0x8F), some (.adcIzy 0x8F), some (.adcZpx 0x8F), some (.rorZpx 0x8F), some .sei, some (.adcAbsy 0xA234), some (.adcAbsx 0xA234), some (.rorAbsx 0xA234)] := by decide

theorem test_decode_8 :
    ([[0x81, 0x8F], [0x84, 0x8F], [0x85, 0x8F], [0x86, 0x8F], [0x88], [0x8A], [0x8C, 0x34, 0xA2], [0x8D, 0x34, 0xA2], [0x8E, 0x34, 0xA2]] : List (List Byte)).map front =
      [some (.staIzx 0x8F), some (.styZp 0x8F), some (.staZp 0x8F), some (.stxZp 0x8F), some .dey, some .txa, some (.styAbs 0xA234), some (.staAbs 0xA234), some (.stxAbs 0xA234)] := by decide

theorem test_decode_9 :
    ([[0x90, 0x8F], [0x91, 0x8F], [0x94, 0x8F], [0x95, 0x8F], [0x96, 0x8F], [0x98], [0x99, 0x34, 0xA2], [0x9A], [0x9D, 0x34, 0xA2]] : List (List Byte)).map front =
      [some (.bcc 0x8F), some (.staIzy 0x8F), some (.styZpx 0x8F), some (.staZpx 0x8F), some (.stxZpy 0x8F), some .tya, some (.staAbsy 0xA234), some .txs, some (.staAbsx 0xA234)] := by decide

theorem test_decode_A :
    ([[0xA0, 0x8F], [0xA1, 0x8F], [0xA2, 0x8F], [0xA4, 0x8F], [0xA5, 0x8F], [0xA6, 0x8F], [0xA8], [0xA9, 0x8F], [0xAA], [0xAC, 0x34, 0xA2], [0xAD, 0x34, 0xA2], [0xAE, 0x34, 0xA2]] : List (List Byte)).map front =
      [some (.ldyImm 0x8F), some (.ldaIzx 0x8F), some (.ldxImm 0x8F), some (.ldyZp 0x8F), some (.ldaZp 0x8F), some (.ldxZp 0x8F), some .tay, some (.ldaImm 0x8F), some .tax, some (.ldyAbs 0xA234), some (.ldaAbs 0xA234), some (.ldxAbs 0xA234)] := by decide

theorem test_decode_B :
    ([[0xB0, 0x8F], [0xB1, 0x8F], [0xB4, 0x8F], [0xB5, 0x8F], [0xB6, 0x8F], [0xB8], [0xB9, 0x34, 0xA2], [0xBA], [0xBC, 0x34, 0xA2], [0xBD, 0x34, 0xA2], [0xBE, 0x34, 0xA2]] : List (List Byte)).map front =
      [some (.bcs 0x8F), some (.ldaIzy 0x8F), some (.ldyZpx 0x8F), some (.ldaZpx 0x8F), some (.ldxZpy 0x8F), some .clv, some (.ldaAbsy 0xA234), some .tsx, some (.ldyAbsx 0xA234), some (.ldaAbsx 0xA234), some (.ldxAbsy 0xA234)] := by decide

theorem test_decode_C :
    ([[0xC0, 0x8F], [0xC1, 0x8F], [0xC4, 0x8F], [0xC5, 0x8F], [0xC6, 0x8F], [0xC8], [0xC9, 0x8F], [0xCA], [0xCC, 0x34, 0xA2], [0xCD, 0x34, 0xA2], [0xCE, 0x34, 0xA2]] : List (List Byte)).map front =
      [some (.cpyImm 0x8F), some (.cmpIzx 0x8F), some (.cpyZp 0x8F), some (.cmpZp 0x8F), some (.decZp 0x8F), some .iny, some (.cmpImm 0x8F), some .dex, some (.cpyAbs 0xA234), some (.cmpAbs 0xA234), some (.decAbs 0xA234)] := by decide

theorem test_decode_D :
    ([[0xD0, 0x8F], [0xD1, 0x8F], [0xD5, 0x8F], [0xD6, 0x8F], [0xD8], [0xD9, 0x34, 0xA2], [0xDD, 0x34, 0xA2], [0xDE, 0x34, 0xA2]] : List (List Byte)).map front =
      [some (.bne 0x8F), some (.cmpIzy 0x8F), some (.cmpZpx 0x8F), some (.decZpx 0x8F), some .cld, some (.cmpAbsy 0xA234), some (.cmpAbsx 0xA234), some (.decAbsx 0xA234)] := by decide

theorem test_decode_E :
    ([[0xE0, 0x8F], [0xE1, 0x8F], [0xE4, 0x8F], [0xE5, 0x8F], [0xE6, 0x8F], [0xE8], [0xE9, 0x8F], [0xEA], [0xEC, 0x34, 0xA2], [0xED, 0x34, 0xA2], [0xEE, 0x34, 0xA2]] : List (List Byte)).map front =
      [some (.cpxImm 0x8F), some (.sbcIzx 0x8F), some (.cpxZp 0x8F), some (.sbcZp 0x8F), some (.incZp 0x8F), some .inx, some (.sbcImm 0x8F), some .nop, some (.cpxAbs 0xA234), some (.sbcAbs 0xA234), some (.incAbs 0xA234)] := by decide

theorem test_decode_F :
    ([[0xF0, 0x8F], [0xF1, 0x8F], [0xF5, 0x8F], [0xF6, 0x8F], [0xF8], [0xF9, 0x34, 0xA2], [0xFD, 0x34, 0xA2], [0xFE, 0x34, 0xA2]] : List (List Byte)).map front =
      [some (.beq 0x8F), some (.sbcIzy 0x8F), some (.sbcZpx 0x8F), some (.incZpx 0x8F), some .sed, some (.sbcAbsy 0xA234), some (.sbcAbsx 0xA234), some (.incAbsx 0xA234)] := by decide

/-- The bytes after an instruction are left, BRK's padding byte is stepped over, and a list that ends early is refused. -/
theorem test_decode_lengths :
    (decode [0x00, 0xEA, 0x40]).toOption = some (.brk, [0x40]) ∧ (decode [0xAD, 0x00, 0x02, 0x60]).toOption = some (.ldaAbs 0x0200, [0x60]) ∧
      (decode [0xAD, 0x00]).toOption = none ∧ (decode []).toOption = none ∧ (decode [0x02, 0x00]).toOption = none := by decide

/-- The host's two entry points: a table word, and the same word run as the first instruction after reset. -/
theorem test_table_word :
    decodeTableWord 16 0x7FA9 = some (.ldaImm 0x7F) ∧ decodeTableWord 8 0xFFA9 = some (.ldaImm 0x00) ∧ decodeTableWord 8 0x02 = none ∧
      observe (State.reset.withFetchWord 16 0x7FA9) (fun t => (t.a, t.pc, t.cyc)) = some (0x7F, 2, 2) ∧
      observe (State.reset.withFetchWord 24 0x12344C) (fun t => t.pc) = some 0x1234 := by decide

/-! Loads and stores (L2.1, L1.5 of spec/95_test_vectors.md). -/

/-- L2.1: BD FF 02 -/
theorem test_lda_absx_crossed :
    observe ((fun s : State => { s with x := 0x01 }) (place 0x0200 [(0x0200, 0xBD), (0x0201, 0xFF), (0x0202, 0x02), (0x0300, 0x80)]))
        (fun t => (t.a, t.flags.n, t.flags.z, t.pc, t.cyc, t.busHistory.reverse)) =
      some (0x80, true, false, 0x0203, 5, [.read 0x0200 0xBD, .read 0x0201 0xFF, .read 0x0202 0x02, .read 0x0300 0x80]) := rfl

/-- L2.1: A1 FE -/
theorem test_lda_izx_pointer_wraps :
    observe ((fun s : State => { s with x := 0x01 }) (place 0x0200 [(0x0200, 0xA1), (0x0201, 0xFE), (0x00FF, 0x34), (0x0000, 0x12), (0x1234, 0x77)]))
        (fun t => (t.a, t.cyc, t.busHistory.reverse)) =
      some (0x77, 6, [.read 0x0200 0xA1, .read 0x0201 0xFE, .read 0x00FF 0x34, .read 0x0000 0x12, .read 0x1234 0x77]) := rfl

/-- L2.1: B6 F0 -/
theorem test_ldx_zpy_wraps :
    observe ((fun s : State => { s with y := 0x10 }) (place 0x0200 [(0x0200, 0xB6), (0x0201, 0xF0), (0x0000, 0x80)]))
        (fun t => (t.x, t.flags.n, t.cyc, t.busHistory.reverse)) =
      some (0x80, true, 4, [.read 0x0200 0xB6, .read 0x0201 0xF0, .read 0x0000 0x80]) := rfl

/-- L2.1: BC F0 12 -/
theorem test_ldy_absx_crossed :
    observe ((fun s : State => { s with x := 0x20 }) (place 0x0200 [(0x0200, 0xBC), (0x0201, 0xF0), (0x0202, 0x12), (0x1310, 0x2A)]))
        (fun t => (t.y, t.x, t.cyc)) =
      some (0x2A, 0x20, 5) := rfl

/-- L2.1: 9D FF 02 -/
theorem test_sta_absx_no_penalty :
    observe ((fun s : State => { s with a := 0x5A, x := 0x01 }) (place 0x0200 [(0x0200, 0x9D), (0x0201, 0xFF), (0x0202, 0x02)]))
        (fun t => (t.mem.read 0x0300, t.a, t.cyc, t.busHistory.reverse)) =
      some (0x5A, 0x5A, 5, [.read 0x0200 0x9D, .read 0x0201 0xFF, .read 0x0202 0x02, .write 0x0300 0x5A]) := rfl

/-- L2.1: 91 10 -/
theorem test_sta_izy :
    observe ((fun s : State => { s with a := 0x5A, y := 0x20 }) (place 0x0200 [(0x0200, 0x91), (0x0201, 0x10), (0x0010, 0xF0), (0x0011, 0x02)]))
        (fun t => (t.mem.read 0x0310, t.cyc, t.busHistory.reverse)) =
      some (0x5A, 6, [.read 0x0200 0x91, .read 0x0201 0x10, .read 0x0010 0xF0, .read 0x0011 0x02, .write 0x0310 0x5A]) := rfl

/-- L2.1: 96 FF -/
theorem test_stx_zpy_wraps :
    observe ((fun s : State => { s with x := 0x11, y := 0x02 }) (place 0x0200 [(0x0200, 0x96), (0x0201, 0xFF)]))
        (fun t => (t.mem.read 0x0001, t.cyc)) =
      some (0x11, 4) := rfl

/-- L2.1: 84 10 -/
theorem test_sty_zp :
    observe ((fun s : State => { s with y := 0x05 }) (place 0x0200 [(0x0200, 0x84), (0x0201, 0x10)]))
        (fun t => (t.mem.read 0x0010, t.cyc, t.busHistory.reverse)) =
      some (0x05, 3, [.read 0x0200 0x84, .read 0x0201 0x10, .write 0x0010 0x05]) := rfl

/-! Arithmetic and logic (L2.2). -/

/-- L2.2: 69 01 -/
theorem test_adc_overflow :
    observe ((fun s : State => { s with a := 0x7F, flags := { s.flags with c := false } }) (place 0x0200 [(0x0200, 0x69), (0x0201, 0x01)]))
        (fun t => (t.a, t.flags.c, t.flags.z, t.flags.v, t.flags.n, t.cyc)) =
      some (0x80, false, false, true, true, 2) := rfl

/-- L2.2: 69 01 with D = 1 -/
theorem test_adc_decimal_ignored :
    observe ((fun s : State => { s with a := 0x09, flags := { s.flags with c := false, d := true } }) (place 0x0200 [(0x0200, 0x69), (0x0201, 0x01)]))
        (fun t => (t.a, t.flags.c, t.flags.z, t.flags.v, t.flags.n, t.flags.d)) =
      some (0x0A, false, false, false, false, true) := rfl

/-- L2.2: E9 01, A = 00 -/
theorem test_sbc_borrow :
    observe ((fun s : State => { s with a := 0x00, flags := { s.flags with c := true } }) (place 0x0200 [(0x0200, 0xE9), (0x0201, 0x01)]))
        (fun t => (t.a, t.flags.c, t.flags.z, t.flags.v, t.flags.n)) =
      some (0xFF, false, false, false, true) := rfl

/-- L2.2: E9 B0 -/
theorem test_sbc_overflow :
    observe ((fun s : State => { s with a := 0x50, flags := { s.flags with c := true } }) (place 0x0200 [(0x0200, 0xE9), (0x0201, 0xB0)]))
        (fun t => (t.a, t.flags.c, t.flags.z, t.flags.v, t.flags.n)) =
      some (0xA0, false, false, true, true) := rfl

/-- L2.2: 29 0F -/
theorem test_and_zero :
    observe ((fun s : State => { s with a := 0xF0, flags := { s.flags with c := true, v := true } }) (place 0x0200 [(0x0200, 0x29), (0x0201, 0x0F)]))
        (fun t => (t.a, t.flags.z, t.flags.n, t.flags.c, t.flags.v)) =
      some (0x00, true, false, true, true) := rfl

/-- L2.2: 09 80 -/
theorem test_ora :
    observe ((fun s : State => { s with a := 0x01 }) (place 0x0200 [(0x0200, 0x09), (0x0201, 0x80)]))
        (fun t => (t.a, t.flags.z, t.flags.n)) =
      some (0x81, false, true) := rfl

/-- L2.2: 49 FF -/
theorem test_eor :
    observe ((fun s : State => { s with a := 0x0F }) (place 0x0200 [(0x0200, 0x49), (0x0201, 0xFF)]))
        (fun t => (t.a, t.flags.z, t.flags.n)) =
      some (0xF0, false, true) := rfl

/-! Shifts and rotates (L2.3). -/

/-- L2.3: 0A -/
theorem test_asl_acc :
    observe ((fun s : State => { s with a := 0x80, flags := { s.flags with c := false } }) (place 0x0200 [(0x0200, 0x0A)]))
        (fun t => (t.a, t.flags.c, t.flags.z, t.flags.n, t.cyc, t.busHistory.reverse)) =
      some (0x00, true, true, false, 2, [.read 0x0200 0x0A]) := rfl

/-- L2.3: 06 10 -/
theorem test_asl_zp :
    observe ((fun s : State => { s with a := 0x01 }) (place 0x0200 [(0x0200, 0x06), (0x0201, 0x10), (0x0010, 0x41)]))
        (fun t => (t.mem.read 0x0010, t.a, t.flags.c, t.flags.n, t.cyc, t.busHistory.reverse)) =
      some (0x82, 0x01, false, true, 5, [.read 0x0200 0x06, .read 0x0201 0x10, .read 0x0010 0x41, .write 0x0010 0x82]) := rfl

/-- L2.3: 4A -/
theorem test_lsr_acc :
    observe ((fun s : State => { s with a := 0x01, flags := { s.flags with c := false } }) (place 0x0200 [(0x0200, 0x4A)]))
        (fun t => (t.a, t.flags.c, t.flags.z, t.flags.n)) =
      some (0x00, true, true, false) := rfl

/-- L2.3: 2A -/
theorem test_rol_acc_carry_in :
    observe ((fun s : State => { s with a := 0x80, flags := { s.flags with c := true } }) (place 0x0200 [(0x0200, 0x2A)]))
        (fun t => (t.a, t.flags.c, t.flags.z, t.flags.n)) =
      some (0x01, true, false, false) := rfl

/-- L2.3: 3E FF 02 -/
theorem test_rol_absx_no_penalty :
    observe ((fun s : State => { s with x := 0x01, flags := { s.flags with c := true } }) (place 0x0200 [(0x0200, 0x3E), (0x0201, 0xFF), (0x0202, 0x02), (0x0300, 0x7F)]))
        (fun t => (t.mem.read 0x0300, t.flags.c, t.flags.n, t.cyc)) =
      some (0xFF, false, true, 7) := rfl

/-- L2.3: 6A -/
theorem test_ror_acc_carry_in :
    observe ((fun s : State => { s with a := 0x02, flags := { s.flags with c := true } }) (place 0x0200 [(0x0200, 0x6A)]))
        (fun t => (t.a, t.flags.c, t.flags.n)) =
      some (0x81, false, true) := rfl

/-! Increments and decrements (L2.4). -/

/-- L2.4: E6 10 -/
theorem test_inc_zp_wraps :
    observe ((fun s : State => { s with flags := { s.flags with c := true } }) (place 0x0200 [(0x0200, 0xE6), (0x0201, 0x10), (0x0010, 0xFF)]))
        (fun t => (t.mem.read 0x0010, t.flags.z, t.flags.n, t.flags.c, t.cyc)) =
      some (0x00, true, false, true, 5) := rfl

/-- L2.4: CE 00 02 -/
theorem test_dec_own_opcode :
    observe (place 0x0200 [(0x0200, 0xCE), (0x0201, 0x00), (0x0202, 0x02)])
        (fun t => (t.mem.read 0x0200, t.flags.n, t.cyc, t.busHistory.reverse)) =
      some (0xCD, true, 6, [.read 0x0200 0xCE, .read 0x0201 0x00, .read 0x0202 0x02, .read 0x0200 0xCE, .write 0x0200 0xCD]) := rfl

/-- L2.4: E8 -/
theorem test_inx_wraps :
    observe ((fun s : State => { s with x := 0xFF }) (place 0x0200 [(0x0200, 0xE8)]))
        (fun t => (t.x, t.flags.z, t.flags.n, t.cyc)) =
      some (0x00, true, false, 2) := rfl

/-- L2.4: C8 -/
theorem test_iny_wraps :
    observe ((fun s : State => { s with y := 0xFF }) (place 0x0200 [(0x0200, 0xC8)]))
        (fun t => (t.y, t.flags.z)) =
      some (0x00, true) := rfl

/-- L2.4: CA -/
theorem test_dex_wraps :
    observe ((fun s : State => { s with x := 0x00 }) (place 0x0200 [(0x0200, 0xCA)]))
        (fun t => (t.x, t.flags.n)) =
      some (0xFF, true) := rfl

/-- L2.4: 88 -/
theorem test_dey_wraps :
    observe ((fun s : State => { s with y := 0x00 }) (place 0x0200 [(0x0200, 0x88)]))
        (fun t => (t.y, t.flags.n)) =
      some (0xFF, true) := rfl

/-! Compare and bit test (L2.5). -/

/-- L2.5 and L1.6: C9 E7 by the rules (90_conflicts.md) -/
theorem test_cmp_unsigned :
    observe ((fun s : State => { s with a := 0x39 }) (place 0x0200 [(0x0200, 0xC9), (0x0201, 0xE7)]))
        (fun t => (t.a, t.flags.n, t.flags.c, t.flags.z, t.cyc)) =
      some (0x39, false, false, false, 2) := rfl

/-- L2.5: C9 00 -/
theorem test_cmp_high :
    observe ((fun s : State => { s with a := 0x80 }) (place 0x0200 [(0x0200, 0xC9), (0x0201, 0x00)]))
        (fun t => (t.flags.n, t.flags.c, t.flags.z)) =
      some (true, true, false) := rfl

/-- L2.5: E0 10 -/
theorem test_cpx_equal :
    observe ((fun s : State => { s with x := 0x10 }) (place 0x0200 [(0x0200, 0xE0), (0x0201, 0x10)]))
        (fun t => (t.flags.n, t.flags.c, t.flags.z)) =
      some (false, true, true) := rfl

/-- L2.5: C0 20 -/
theorem test_cpy_less :
    observe ((fun s : State => { s with y := 0x10 }) (place 0x0200 [(0x0200, 0xC0), (0x0201, 0x20)]))
        (fun t => (t.flags.n, t.flags.c, t.flags.z)) =
      some (true, false, false) := rfl

/-- L2.5: 24 10 -/
theorem test_bit_zp :
    observe ((fun s : State => { s with a := 0x3F }) (place 0x0200 [(0x0200, 0x24), (0x0201, 0x10), (0x0010, 0xC0)]))
        (fun t => (t.flags.n, t.flags.z, t.flags.v, t.a, t.cyc)) =
      some (true, true, true, 0x3F, 3) := rfl

/-- L2.5: 2C 00 03 -/
theorem test_bit_abs_clears :
    observe ((fun s : State => { s with a := 0x01, flags := { s.flags with v := true, n := true } }) (place 0x0200 [(0x0200, 0x2C), (0x0201, 0x00), (0x0202, 0x03), (0x0300, 0x01)]))
        (fun t => (t.flags.n, t.flags.z, t.flags.v, t.cyc)) =
      some (false, false, false, 4) := rfl

/-! Branches (L2.6, L1.2). -/

/-- L2.6: D0 10, Z = 1 -/
theorem test_bne_not_taken :
    observe ((fun s : State => { s with flags := { s.flags with z := true } }) (place 0x0200 [(0x0200, 0xD0), (0x0201, 0x10)]))
        (fun t => (t.pc, t.cyc)) =
      some (0x0202, 2) := rfl

/-- L2.6: D0 20 at 10F0 -/
theorem test_bne_crossed :
    observe ((fun s : State => { s with flags := { s.flags with z := false } }) (place 0x10F0 [(0x10F0, 0xD0), (0x10F1, 0x20)]))
        (fun t => (t.pc, t.cyc)) =
      some (0x1112, 4) := rfl

/-- L2.6: F0 7F -/
theorem test_beq_forward :
    observe ((fun s : State => { s with flags := { s.flags with z := true } }) (place 0x0200 [(0x0200, 0xF0), (0x0201, 0x7F)]))
        (fun t => (t.pc, t.cyc, t.busHistory.reverse)) =
      some (0x0281, 3, [.read 0x0200 0xF0, .read 0x0201 0x7F]) := rfl

/-- L2.6: 10 80 at 1000 -/
theorem test_bpl_backward_crossed :
    observe ((fun s : State => { s with flags := { s.flags with n := false } }) (place 0x1000 [(0x1000, 0x10), (0x1001, 0x80)]))
        (fun t => (t.pc, t.cyc)) =
      some (0x0F82, 4) := rfl

/-- L2.6: 30 10 at 2000 -/
theorem test_bmi_not_taken :
    observe ((fun s : State => { s with flags := { s.flags with n := false } }) (place 0x2000 [(0x2000, 0x30), (0x2001, 0x10)]))
        (fun t => (t.pc, t.cyc)) =
      some (0x2002, 2) := rfl

/-- L2.6: 50 02 at 3000 -/
theorem test_bvc_taken :
    observe ((fun s : State => { s with flags := { s.flags with v := false } }) (place 0x3000 [(0x3000, 0x50), (0x3001, 0x02)]))
        (fun t => (t.pc, t.cyc)) =
      some (0x3004, 3) := rfl

/-- L2.6: 70 FE at 4000 -/
theorem test_bvs_to_itself :
    observe ((fun s : State => { s with flags := { s.flags with v := true } }) (place 0x4000 [(0x4000, 0x70), (0x4001, 0xFE)]))
        (fun t => (t.pc, t.cyc)) =
      some (0x4000, 3) := rfl

/-- L2.6: 90 7F at FFF0 -/
theorem test_bcc_wraps :
    observe ((fun s : State => { s with flags := { s.flags with c := false } }) (place 0xFFF0 [(0xFFF0, 0x90), (0xFFF1, 0x7F)]))
        (fun t => (t.pc, t.cyc)) =
      some (0x0071, 4) := rfl

/-- L2.6: B0 00 at 5000 -/
theorem test_bcs_zero_displacement :
    observe ((fun s : State => { s with flags := { s.flags with c := true } }) (place 0x5000 [(0x5000, 0xB0), (0x5001, 0x00)]))
        (fun t => (t.pc, t.cyc)) =
      some (0x5002, 3) := rfl

/-! Jumps and stack (L2.7, L1.3). -/

/-- L2.7: 4C 34 12 -/
theorem test_jmp_abs :
    observe (place 0x0400 [(0x0400, 0x4C), (0x0401, 0x34), (0x0402, 0x12)])
        (fun t => (t.pc, t.cyc, t.busHistory.reverse)) =
      some (0x1234, 3, [.read 0x0400 0x4C, .read 0x0401 0x34, .read 0x0402 0x12]) := rfl

/-- L2.7: 6C FF 02 -/
theorem test_jmp_ind_page_end :
    observe (place 0x0400 [(0x0400, 0x6C), (0x0401, 0xFF), (0x0402, 0x02), (0x02FF, 0x34), (0x0200, 0x12), (0x0300, 0x56)])
        (fun t => (t.pc, t.cyc, t.busHistory.reverse)) =
      some (0x1234, 5, [.read 0x0400 0x6C, .read 0x0401 0xFF, .read 0x0402 0x02, .read 0x02FF 0x34, .read 0x0200 0x12]) := rfl

/-- L2.7: 20 00 40 -/
theorem test_jsr :
    observe ((fun s : State => { s with sp := 0x80 }) (place 0x0200 [(0x0200, 0x20), (0x0201, 0x00), (0x0202, 0x40)]))
        (fun t => (t.mem.read 0x0180, t.mem.read 0x017F, t.sp, t.pc, t.cyc)) =
      some (0x02, 0x02, 0x7E, 0x4000, 6) := rfl

/-- L2.7: 20 00 40, SP = 00 -/
theorem test_jsr_stack_wraps :
    observe ((fun s : State => { s with sp := 0x00 }) (place 0x0300 [(0x0300, 0x20), (0x0301, 0x00), (0x0302, 0x40)]))
        (fun t => (t.mem.read 0x0100, t.mem.read 0x01FF, t.sp, t.busHistory.reverse)) =
      some (0x03, 0x02, 0xFE, [.read 0x0300 0x20, .read 0x0301 0x00, .read 0x0302 0x40, .write 0x0100 0x03, .write 0x01FF 0x02]) := rfl

/-- L2.7: 60 -/
theorem test_rts :
    observe ((fun s : State => { s with sp := 0xFD }) (place 0x0200 [(0x0200, 0x60), (0x01FE, 0x39), (0x01FF, 0xCE)]))
        (fun t => (t.pc, t.sp, t.cyc, t.busHistory.reverse)) =
      some (0xCE3A, 0xFF, 6, [.read 0x0200 0x60, .read 0x01FE 0x39, .read 0x01FF 0xCE]) := rfl

/-- L2.7: 48 -/
theorem test_pha_stack_wraps :
    observe ((fun s : State => { s with a := 0x77, sp := 0x00 }) (place 0x0200 [(0x0200, 0x48)]))
        (fun t => (t.mem.read 0x0100, t.sp, t.cyc)) =
      some (0x77, 0xFF, 3) := rfl

/-- L2.7: 08 -/
theorem test_php_all_clear :
    observe ((fun s : State => { s with flags := { s.flags with c := false, z := false, i := false, d := false, v := false, n := false, b := false } }) (place 0x0200 [(0x0200, 0x08)]))
        (fun t => (t.mem.read 0x01FD, t.sp, t.flags.b)) =
      some (0x30, 0xFC, false) := rfl

/-- L2.7: 08 -/
theorem test_php_all_set :
    observe ((fun s : State => { s with flags := { s.flags with c := true, z := true, i := true, d := true, v := true, n := true, b := false } }) (place 0x0200 [(0x0200, 0x08)]))
        (fun t => (t.mem.read 0x01FD, t.flags.b, t.cyc)) =
      some (0xFF, false, 3) := rfl

/-- L2.7: 68, SP = FF -/
theorem test_pla_stack_wraps :
    observe ((fun s : State => { s with sp := 0xFF }) (place 0x0200 [(0x0200, 0x68), (0x0100, 0x81)]))
        (fun t => (t.a, t.flags.n, t.flags.z, t.sp, t.cyc, t.busHistory.reverse)) =
      some (0x81, true, false, 0x00, 4, [.read 0x0200 0x68, .read 0x0100 0x81]) := rfl

/-- L2.7: 28, B = 1 -/
theorem test_plp_leaves_b :
    observe ((fun s : State => { s with flags := { s.flags with b := true, c := true, z := true, i := true, d := true, v := true, n := true } }) (place 0x0200 [(0x0200, 0x28), (0x01FE, 0x00)]))
        (fun t => (t.flags.c, t.flags.z, t.flags.i, t.flags.d, t.flags.v, t.flags.n, t.flags.b, t.sp)) =
      some (false, false, false, false, false, false, true, 0xFE) := rfl

/-- L2.7: 28, mem[01FE] = C3 -/
theorem test_plp_bits :
    observe (place 0x0200 [(0x0200, 0x28), (0x01FE, 0xC3)])
        (fun t => (t.flags.n, t.flags.v, t.flags.d, t.flags.i, t.flags.z, t.flags.c, t.flags.b, t.cyc)) =
      some (true, true, false, false, true, true, false, 4) := rfl

/-! BRK and RTI (L2.8). -/

/-- L2.8: 00 FF -/
theorem test_brk :
    observe ((fun s : State => { s with flags := { s.flags with c := true, i := false } }) (place 0x0200 [(0x0200, 0x00), (0x0201, 0xFF), (0xFFFE, 0x00), (0xFFFF, 0xD0)]))
        (fun t => (t.sp, t.flags.i, t.flags.b, t.pc, t.cyc, t.busHistory.reverse)) =
      some (0xFA, true, true, 0xD000, 7, [.read 0x0200 0x00, .write 0x01FD 0x02, .write 0x01FC 0x02, .write 0x01FB 0x31, .read 0xFFFE 0x00, .read 0xFFFF 0xD0]) := rfl

/-- L2.8: 40 -/
theorem test_rti :
    observe ((fun s : State => { s with sp := 0xFA, flags := { s.flags with i := true, b := true } }) (place 0x0200 [(0x0200, 0x40), (0x01FB, 0xF7), (0x01FC, 0x03), (0x01FD, 0xC0)]))
        (fun t => (t.flags.c, t.flags.z, t.flags.i, t.flags.d, t.flags.v, t.flags.n, t.flags.b, t.pc, t.sp, t.cyc, t.busHistory.reverse)) =
      some (true, true, true, false, true, true, true, 0xC003, 0xFD, 6, [.read 0x0200 0x40, .read 0x01FB 0xF7, .read 0x01FC 0x03, .read 0x01FD 0xC0]) := rfl

/-- L2.8: 40, status 20 -/
theorem test_rti_unmasks :
    observe ((fun s : State => { s with sp := 0xFA, flags := { s.flags with i := true } }) (place 0x0200 [(0x0200, 0x40), (0x01FB, 0x20), (0x01FC, 0x00), (0x01FD, 0x80)]))
        (fun t => (t.flags.c, t.flags.z, t.flags.i, t.flags.d, t.flags.v, t.flags.n, t.pc)) =
      some (false, false, false, false, false, false, 0x8000) := rfl

/-! Transfers, flag instructions, NOP (L2.9). -/

/-- L2.9: AA -/
theorem test_tax :
    observe ((fun s : State => { s with a := 0x80 }) (place 0x0200 [(0x0200, 0xAA)]))
        (fun t => (t.x, t.flags.n, t.flags.z, t.cyc)) =
      some (0x80, true, false, 2) := rfl

/-- L2.9: A8 -/
theorem test_tay :
    observe ((fun s : State => { s with a := 0x00, y := 0x05 }) (place 0x0200 [(0x0200, 0xA8)]))
        (fun t => (t.y, t.flags.z)) =
      some (0x00, true) := rfl

/-- L2.9: 8A -/
theorem test_txa :
    observe ((fun s : State => { s with x := 0x7F }) (place 0x0200 [(0x0200, 0x8A)]))
        (fun t => (t.a, t.flags.n, t.flags.z)) =
      some (0x7F, false, false) := rfl

/-- L2.9: 98 -/
theorem test_tya :
    observe ((fun s : State => { s with y := 0x00, a := 0x05 }) (place 0x0200 [(0x0200, 0x98)]))
        (fun t => (t.a, t.flags.z)) =
      some (0x00, true) := rfl

/-- L2.9: BA -/
theorem test_tsx :
    observe ((fun s : State => { s with sp := 0x00, x := 0x05 }) (place 0x0200 [(0x0200, 0xBA)]))
        (fun t => (t.x, t.flags.z, t.sp)) =
      some (0x00, true, 0x00) := rfl

/-- L2.9: 9A -/
theorem test_txs :
    observe ((fun s : State => { s with x := 0x00, flags := { s.flags with z := false, n := true } }) (place 0x0200 [(0x0200, 0x9A)]))
        (fun t => (t.sp, t.flags.z, t.flags.n)) =
      some (0x00, false, true) := rfl

/-- L2.9: 18 -/
theorem test_clc :
    observe ((fun s : State => { s with flags := { s.flags with c := true } }) (place 0x0200 [(0x0200, 0x18)]))
        (fun t => (t.flags.c, t.pc, t.cyc)) =
      some (false, 0x0201, 2) := rfl

/-- L2.9: 38 -/
theorem test_sec :
    observe ((fun s : State => { s with flags := { s.flags with c := false } }) (place 0x0200 [(0x0200, 0x38)]))
        (fun t => (t.flags.c, t.pc, t.cyc)) =
      some (true, 0x0201, 2) := rfl

/-- L2.9: 58 -/
theorem test_cli :
    observe ((fun s : State => { s with flags := { s.flags with i := true } }) (place 0x0200 [(0x0200, 0x58)]))
        (fun t => (t.flags.i, t.pc, t.cyc)) =
      some (false, 0x0201, 2) := rfl

/-- L2.9: 78 -/
theorem test_sei :
    observe ((fun s : State => { s with flags := { s.flags with i := false } }) (place 0x0200 [(0x0200, 0x78)]))
        (fun t => (t.flags.i, t.pc, t.cyc)) =
      some (true, 0x0201, 2) := rfl

/-- L2.9: D8 -/
theorem test_cld :
    observe ((fun s : State => { s with flags := { s.flags with d := true } }) (place 0x0200 [(0x0200, 0xD8)]))
        (fun t => (t.flags.d, t.pc, t.cyc)) =
      some (false, 0x0201, 2) := rfl

/-- L2.9: F8 -/
theorem test_sed :
    observe ((fun s : State => { s with flags := { s.flags with d := false } }) (place 0x0200 [(0x0200, 0xF8)]))
        (fun t => (t.flags.d, t.pc, t.cyc)) =
      some (true, 0x0201, 2) := rfl

/-- L2.9: B8 -/
theorem test_clv :
    observe ((fun s : State => { s with flags := { s.flags with v := true } }) (place 0x0200 [(0x0200, 0xB8)]))
        (fun t => (t.flags.v, t.pc, t.cyc)) =
      some (false, 0x0201, 2) := rfl

/-- L2.9: EA at 8000 -/
theorem test_nop :
    observe (place 0x8000 [(0x8000, 0xEA)])
        (fun t => (t.pc, t.a, t.sp, t.cyc, t.busHistory.reverse)) =
      some (0x8001, 0x00, 0xFD, 2, [.read 0x8000 0xEA]) := rfl

/-! Resolvers and the PC at the edges (L2.10). -/

/-- L2.10: A9 07 at FFFE -/
theorem test_pc_wraps :
    observe (place 0xFFFE [(0xFFFE, 0xA9), (0xFFFF, 0x07)])
        (fun t => (t.a, t.pc)) =
      some (0x07, 0x0000) := rfl

/-- L2.1 and L2.10: BD FF FF (D27) -/
theorem test_absx_wraps :
    observe ((fun s : State => { s with x := 0x01 }) (place 0x0200 [(0x0200, 0xBD), (0x0201, 0xFF), (0x0202, 0xFF), (0x0000, 0x42)]))
        (fun t => (t.a, t.cyc, t.busHistory.reverse)) =
      some (0x42, 5, [.read 0x0200 0xBD, .read 0x0201 0xFF, .read 0x0202 0xFF, .read 0x0000 0x42]) := rfl

/-- L2.1 and L2.10: B1 FF -/
theorem test_izy_pointer_wraps :
    observe ((fun s : State => { s with y := 0x01 }) (place 0x0200 [(0x0200, 0xB1), (0x0201, 0xFF), (0x00FF, 0x00), (0x0000, 0x03), (0x0301, 0x44)]))
        (fun t => (t.a, t.cyc, t.busHistory.reverse)) =
      some (0x44, 5, [.read 0x0200 0xB1, .read 0x0201 0xFF, .read 0x00FF 0x00, .read 0x0000 0x03, .read 0x0301 0x44]) := rfl

/-! Engine (L2.11). -/

/-- L2.11: NMI service -/
theorem test_nmi_wins :
    observe ((fun s : State => { s with nmiLatch := true, irqLine := true, flags := { s.flags with c := true, i := false } }) (place 0x8000 [(0xFFFA, 0x00), (0xFFFB, 0x90)]))
        (fun t => (t.nmiLatch, t.irqLine, t.flags.i, t.flags.b, t.sp, t.pc, t.cyc, t.busHistory.reverse)) =
      some (false, true, true, false, 0xFA, 0x9000, 7, [.write 0x01FD 0x80, .write 0x01FC 0x00, .write 0x01FB 0x21, .read 0xFFFA 0x00, .read 0xFFFB 0x90]) := rfl

/-- L2.11: IRQ service -/
theorem test_irq :
    observe ((fun s : State => { s with irqLine := true, flags := { s.flags with i := false, n := true } }) (place 0x8000 [(0xFFFE, 0x00), (0xFFFF, 0xA0)]))
        (fun t => (t.flags.i, t.irqLine, t.pc, t.cyc, t.busHistory.reverse)) =
      some (true, true, 0xA000, 7, [.write 0x01FD 0x80, .write 0x01FC 0x00, .write 0x01FB 0xA0, .read 0xFFFE 0x00, .read 0xFFFF 0xA0]) := rfl

/-- L2.11: IRQ masked -/
theorem test_irq_masked :
    observe ((fun s : State => { s with irqLine := true, flags := { s.flags with i := true } }) (place 0x8000 [(0x8000, 0xEA)]))
        (fun t => (t.pc, t.cyc)) =
      some (0x8001, 2) := rfl

/-- L2.11: NMI while I = 1 -/
theorem test_nmi_not_masked :
    observe ((fun s : State => { s with nmiLatch := true, flags := { s.flags with i := true } }) (place 0x8000 [(0x8000, 0xEA), (0xFFFA, 0x00), (0xFFFB, 0x90)]))
        (fun t => (t.pc, t.nmiLatch)) =
      some (0x9000, false) := rfl

/-- L2.11: Tick count -/
theorem test_countdown :
    observe ((fun s : State => { s with cyc := 2 }) (place 0x8000 [(0x8000, 0xA9), (0x8001, 0x01)]))
        (fun t => (t.cyc, t.pc, t.a)) =
      some (1, 0x8000, 0x00) := rfl

/-- L2.11: Unknown, Permissive -/
theorem test_unknown_permissive :
    observe ((fun s : State => { s with config := ⟨.permissive, true⟩ }) (place 0x8000 [(0x8000, 0x02)]))
        (fun t => (t.pc, t.cyc, t.a, t.sp, t.diagLog)) =
      some (0x8001, 2, 0x00, 0xFD, [⟨0x02, 0x8000⟩]) := rfl

/-! The rest of the engine (L2.11). -/

/-- L2.11: Unknown, Strict: the bus read and the report stand in the halted state, all else is as before the tick (R252). -/
theorem test_unknown_strict :
    step (place 0x0200 [(0x0200, 0x02)]) =
      .fault (.unhandledOpcode 0x02 0x0200
        { place 0x0200 [(0x0200, 0x02)] with
          busHistory := [.read 0x0200 0x02], traceLog := [⟨0x0200, 0x02, 0x00, 0x00, 0x00, 0x24, 0xFD⟩] }) := rfl

/-- L2.11: Reset from vector. -/
theorem test_reset_from_vector :
    observe ((fun s : State => { s with a := 0x12, sp := 0x00, schedule := [.reset false] }) (place 0x1234 [(0xFFFC, 0x00), (0xFFFD, 0x80)]))
        (fun t => (t.pc, t.sp, pack t.flags.b t.flags, t.cyc, t.a, t.busHistory.reverse)) =
      some (0x8000, 0xFD, 0x24, 7, 0x12, [.read 0xFFFC 0x00, .read 0xFFFD 0x80]) := rfl

/-- R282, R280: with the verdict `true` the PC is 0xC000 and no vector is read. -/
theorem test_reset_automation :
    observe ((fun s : State => { s with schedule := [.reset true] }) (place 0x1234 [(0xFFFC, 0x00), (0xFFFD, 0x80)]))
        (fun t => (t.pc, t.busHistory)) =
      some (0xC000, []) := rfl

/-- L2.11: Trace hook. -/
theorem test_trace_hook :
    observe (place 0x8000 [(0x8000, 0xA9), (0x8001, 0x01)]) (fun t => (t.a, t.traceLog)) =
      some (0x01, [⟨0x8000, 0xA9, 0x00, 0x00, 0x00, 0x24, 0xFD⟩]) := rfl

/-- R287: a tick before the first reset. -/
theorem test_tick_before_reset : step processStart = .refused .tickBeforeReset := rfl

/-- R264: the host's acts between ticks. -/
theorem test_host_acts :
    observe { State.reset with schedule := [.setNmiLatch true] } (fun t => t.nmiLatch) = some true ∧
      observe { State.reset with schedule := [.setNmiLatch false], nmiLatch := true } (fun t => t.nmiLatch) = some false ∧
      observe { State.reset with schedule := [.driveIrq true] } (fun t => t.irqLine) = some true ∧
      observe { State.reset with schedule := [.pokeBus 0x0010 0x42] } (fun t => (t.mem.read 0x0010, t.busHistory.length)) =
        some (0x42, 2) ∧
      observe { State.reset with schedule := [.touchDevices 5] } (fun t => (t.devicesTouched, t.busHistory.length)) = some (5, 2) := by
  decide

/-- A write to ROM completes and changes nothing (R80, R88); a device's answer is a free value (93 U5). -/
theorem test_rom_keeps :
    observe ((fun s : State => { s with a := 0x5A, busMap := [⟨0x8000, 0x8000, .rom⟩] }) (place 0x0200 [(0x0200, 0x8D), (0x0202, 0x80), (0x8000, 0x11)]))
        (fun t => (t.mem.read 0x8000, t.busHistory.head?)) =
      some (0x11, some (.write 0x8000 0x5A)) := rfl
theorem test_device_is_free (s : State) :
    busValue 0x2002 { s with busMap := [⟨0x2000, 0x2000, .device⟩] } =
      Config.deviceByte s.devicesTouched s.busHistory 0x2002 := rfl

/-- R79: "a bus write may change device state and the value a later read returns". -/
theorem test_device_sees_writes (s : State) :
    busValue 0x2002 (memWrite 0x2000 0x80 { s with busMap := [⟨0x2000, 0x2000, .device⟩] }) =
      Config.deviceByte s.devicesTouched (.write 0x2000 0x80 :: s.busHistory) 0x2002 := rfl

/-! Witnesses: for every obligation with hypotheses, a state and operands that meet them all. -/

/-- LDA $1234 at a boundary, on RAM, memory canonical and not empty. -/
def sample : State := place 0x0200 [(0x0200, 0xAD), (0x0201, 0x34), (0x0202, 0x12), (0x1234, 0x80)]

theorem sample_wf : sample.mem.wf = true := by decide

theorem sample_atDispatch : AtDispatch sample := ⟨⟨⟨rfl, .inl rfl⟩, rfl⟩, rfl, .inl rfl⟩

theorem witness_DecodeInvertsEncode : (Instr.brk).wellFormed = true ∧ (Instr.ldaAbsx 0xFFFF).wellFormed = true := by decide

theorem witness_EncodeInvertsDecode : decode [0x00] = .ok (.brk, []) ∧ decode [0x6C, 0xFF, 0x02, 0xEA] = .ok (.jmpInd 0x02FF, [0xEA]) :=
  ⟨rfl, rfl⟩

theorem witness_IndexedIndirectAddress :
    (0x00FF : Word).toNat = ((0xFE : Byte).toNat + ((0x01 : Byte)).toNat) % 256 ∧
      (0x0000 : Word).toNat = ((0x00FF : Word).toNat + 1) % 256 := by decide

/-- The pointer at the end of page 0; the base is 0xFFFF, so that any Y but 0 wraps and crosses. -/
theorem witness_IndirectIndexedAddress :
    let s := place 0x0200 [(0x0000, 0xFF), (0x00FF, 0xFF)]
    (0x00FF : Word).toNat = (0xFF : Byte).toNat ∧ (0x0000 : Word).toNat = ((0xFF : Byte).toNat + 1) % 256 ∧
      65535 = (busValue 0x00FF s).toNat + 256 * (busValue 0x0000 (afterRead 0x00FF s)).toNat := by decide

theorem witness_IndirectStaysInPage :
    (0x0200 : Word).toNat = (0x02FF : Word).toNat / 256 * 256 + ((0x02FF : Word).toNat + 1) % 256 ∧
      (0xFF00 : Word).toNat = (0xFFFF : Word).toNat / 256 * 256 + ((0xFFFF : Word).toNat + 1) % 256 ∧
      (0x0301 : Word).toNat = (0x0300 : Word).toNat / 256 * 256 + ((0x0300 : Word).toNat + 1) % 256 := by decide

theorem witness_LoadsTakeTheOperand :
    ReadForm .lda (.ldaIzy 0xFF) (.mem (.izy 0xFF)) 5 ∧ ReadForm .ldx (.ldxImm 0x00) (.imm 0x00) 2 ∧
      ReadForm .ldy (.ldyAbsx 0xFFFF) (.mem (.absx 0xFFFF)) 4 := ⟨.ldaIzy _, .ldxImm _, .ldyAbsx _⟩

theorem witness_StoresWriteOneByte :
    (StoreForm .sta (.staAbsx 0xFFFF) (.absx 0xFFFF) 5 ∧ StoreForm .stx (.stxZpy 0xFF) (.zpy 0xFF) 4 ∧
      StoreForm .sty (.styZp 0x00) (.zp 0x00) 3) ∧ sample.mem.wf = true := ⟨⟨.staAbsx _, .stxZpy _, .styZp _⟩, sample_wf⟩

theorem witness_AdcAddsWithCarry : ReadForm .adc (.adcImm 0xFF) (.imm 0xFF) 2 := .adcImm _

theorem witness_SbcSubtractsWithBorrow : ReadForm .sbc (.sbcAbsy 0x02FF) (.mem (.absy 0x02FF)) 4 := .sbcAbsy _

/-- L1.1: A = 10, M = 10, c = 0. -/
theorem witness_SbcUndoesAdc :
    ReadForm .adc (.adcImm 0x10) (.imm 0x10) 2 ∧ ReadForm .sbc (.sbcImm 0x10) (.imm 0x10) 2 ∧
      ∃ t, exec (.adcImm 0x10) { sample with a := 0x10 } = .next t ∧
        (readSource (.imm 0x10) (t.setFlags { t.flags with c := true })).value =
          (readSource (.imm 0x10) { sample with a := 0x10 }).value := ⟨.adcImm _, .sbcImm _, _, rfl, rfl⟩

theorem witness_DecimalFlagIsNeverConsulted : ReadForm .sbc (.sbcZp 0x10) (.mem (.zp 0x10)) 3 := .sbcZp _

theorem witness_LogicIsBitwise :
    ReadForm .and (.andImm 0x0F) (.imm 0x0F) 2 ∧ ReadForm .ora (.oraZpx 0xFF) (.mem (.zpx 0xFF)) 4 ∧
      ReadForm .eor (.eorIzx 0xFE) (.mem (.izx 0xFE)) 6 := ⟨.andImm _, .oraZpx _, .eorIzx _⟩

theorem witness_ComparesAreUnsigned :
    ReadForm .cmp (.cmpImm 0xE7) (.imm 0xE7) 2 ∧ ReadForm .cpx (.cpxAbs 0xFFFF) (.mem (.abs 0xFFFF)) 4 ∧
      ReadForm .cpy (.cpyZp 0x00) (.mem (.zp 0x00)) 3 := ⟨.cmpImm _, .cpxAbs _, .cpyZp _⟩

theorem witness_BitTestsTheOperand : ReadForm .bit (.bitZp 0x10) (.mem (.zp 0x10)) 3 := .bitZp _

theorem witness_LeftShiftsDouble :
    (ModifyForm .asl .aslAcc .acc 2 ∧ ModifyForm .rol (.rolAbsx 0xFFFF) (.mem (.absx 0xFFFF)) 7) ∧ sample.mem.wf = true :=
  ⟨⟨.aslAcc, .rolAbsx _⟩, sample_wf⟩

theorem witness_RightShiftsHalve :
    (ModifyForm .lsr (.lsrZp 0x10) (.mem (.zp 0x10)) 5 ∧ ModifyForm .ror .rorAcc .acc 2) ∧ sample.mem.wf = true :=
  ⟨⟨.lsrZp _, .rorAcc⟩, sample_wf⟩

theorem witness_IncDecWrapInMemory :
    (ModifyForm .inc (.incZpx 0xFF) (.mem (.zpx 0xFF)) 6 ∧ ModifyForm .dec (.decAbs 0x0200) (.mem (.abs 0x0200)) 6) ∧
      sample.mem.wf = true := ⟨⟨.incZpx _, .decAbs _⟩, sample_wf⟩

/-- A taken branch and one not taken, at both ends of the displacement. -/
theorem witness_BranchesFollowTheirFlag :
    (BranchForm (.bne 0x80) 0x80 (fun f => !f.z) ∧ (!sample.flags.z) = true) ∧
      (BranchForm (.bcs 0x7F) 0x7F (fun f => f.c) ∧ sample.flags.c = false) := ⟨⟨.bne _, rfl⟩, .bcs _, rfl⟩

theorem witness_JsrPushesTheReturnAddress : sample.mem.wf = true ∧ { sample with sp := 0x00 }.mem.wf = true := ⟨sample_wf, sample_wf⟩

theorem witness_RtsUndoesJsr :
    sample.mem.wf = true ∧ kindAt sample.busMap (stackAddr sample.sp).toNat = .ram ∧
      kindAt sample.busMap (stackAddr (sample.sp - 1)).toNat = .ram ∧ ∃ t, exec (.jsr 0x4000) sample = .next t :=
  ⟨sample_wf, rfl, rfl, _, rfl⟩

theorem witness_StackStaysInPageOne : sample.mem.wf = true := sample_wf

theorem witness_PushInstructionsStoreOneByte : sample.mem.wf = true := sample_wf

theorem witness_BrkEntersThroughTheIrqVector : sample.mem.wf = true := sample_wf

theorem witness_RtiUndoesBrk :
    sample.mem.wf = true ∧ (∀ k : Byte, kindAt sample.busMap (stackAddr k).toNat = .ram) ∧ ∃ t, exec .brk sample = .next t :=
  ⟨sample_wf, fun _ => rfl, _, rfl⟩

theorem witness_NmiIsServicedFirst :
    AtBoundary { sample with nmiLatch := true } ∧ { sample with nmiLatch := true }.nmiLatch = true ∧ sample.mem.wf = true :=
  ⟨⟨⟨rfl, .inl rfl⟩, rfl⟩, rfl, sample_wf⟩

/-- The same with the tick on the schedule. -/
theorem witness_IrqIsServicedWhenUnmasked :
    let s := { sample with irqLine := true, flags := { sample.flags with i := false }, schedule := [.tick] }
    AtBoundary s ∧ s.nmiLatch = false ∧ s.flags.i = false ∧ s.irqLine = true ∧ s.mem.wf = true :=
  ⟨⟨⟨rfl, .inr ⟨[], rfl⟩⟩, rfl⟩, rfl, rfl, rfl, sample_wf⟩

theorem witness_TickCountsDownToTheBoundary :
    (Ticking State.reset ∧ State.reset.cyc ≠ 0) ∧ Ticking sample ∧ sample.cyc = 0 :=
  ⟨⟨⟨rfl, .inl rfl⟩, by decide⟩, ⟨rfl, .inl rfl⟩, rfl⟩

theorem witness_BoundaryComesAfterTheCost : State.reset.phase = .running ∧ State.reset.schedule = [] := ⟨rfl, rfl⟩

theorem witness_StepRunsTheDecodedInstruction :
    AtDispatch sample ∧ decode (codeAt sample 3) = .ok (.ldaAbs 0x1234, []) ∧ (Instr.ldaAbs 0x1234).wellFormed = true ∧
      CodeReadable sample (Instr.ldaAbs 0x1234).fetchedBytes.length :=
  ⟨sample_atDispatch, rfl, rfl, fun _ _ => (by decide : RegionKind.ram ≠ RegionKind.device)⟩

/-- The byte 0x02 at PC. -/
def unknown : State := place 0xFFFF [(0xFFFF, 0x02)]

theorem witness_StrictUnknownOpcodeFaults :
    AtDispatch unknown ∧ unknown.config.policy = .strict ∧ busValue unknown.pc unknown ∈ unassignedBytes :=
  ⟨⟨⟨⟨rfl, .inl rfl⟩, rfl⟩, rfl, .inl rfl⟩, rfl, by decide⟩

theorem witness_PermissiveUnknownOpcodeIsANop :
    let s := { unknown with config := ⟨.permissive, false⟩ }
    AtDispatch s ∧ s.config.policy = .permissive ∧ busValue s.pc s ∈ unassignedBytes :=
  ⟨⟨⟨⟨rfl, .inl rfl⟩, rfl⟩, rfl, .inl rfl⟩, rfl, by decide⟩

theorem witness_UnhandledOpcodeIsTheOnlyFault : Ticking sample ∧ Ticking unknown ∧ lookup (busValue unknown.pc unknown) = none :=
  ⟨⟨rfl, .inl rfl⟩, ⟨rfl, .inl rfl⟩, rfl⟩

theorem witness_ResetCallSetsTheCore :
    { sample with schedule := [.reset true] }.schedule = .reset true :: [] ∧
      { sample with schedule := [.reset false, .tick] }.schedule = .reset false :: [.tick] := ⟨rfl, rfl⟩

theorem witness_TickBeforeResetIsRefused : processStart.phase = .unreset ∧ NextIsTick processStart := ⟨rfl, .inl rfl⟩

theorem witness_StepKeepsInvariant : Inv sample ∧ ∃ t, step sample = .next t := ⟨⟨sample_wf, by decide⟩, _, rfl⟩

theorem witness_HistoryAccountsForMemory :
    (∀ a v later, sample.schedule ≠ .pokeBus a v :: later) ∧ ∃ t, step sample = .next t := ⟨fun _ _ _ h => List.cons_ne_nil _ _ h.symm, _, rfl⟩

/-- The latch kept, the latch cleared by its service, and each act of the host next on the schedule. -/
theorem witness_EnvironmentIsTheHosts :
    (Ticking sample ∧ ∃ t, step sample = .next t ∧ t.nmiLatch = sample.nmiLatch) ∧
      (Ticking { sample with nmiLatch := true } ∧ ∃ t, step { sample with nmiLatch := true } = .next t ∧ t.nmiLatch = false) ∧
      { sample with schedule := [.setNmiLatch false, .tick] }.schedule = .setNmiLatch false :: [.tick] ∧
      { sample with schedule := [.driveIrq true] }.schedule = .driveIrq true :: [] ∧
      { sample with schedule := [.touchDevices 1] }.schedule = .touchDevices 1 :: [] ∧
      { sample with schedule := [.pokeBus 0xFFFF 0x00] }.schedule = .pokeBus 0xFFFF 0x00 :: [] ∧ sample.mem.wf = true :=
  ⟨⟨⟨rfl, .inl rfl⟩, _, rfl, rfl⟩, ⟨⟨rfl, .inl rfl⟩, _, rfl, rfl⟩, rfl, rfl, rfl, rfl, sample_wf⟩

/-- Each flag changed by one of its writers. -/
theorem witness_FlagsHaveTheirWriters :
    (∃ t, exec .sec sample = .next t ∧ t.flags.c ≠ sample.flags.c) ∧ (∃ t, exec .cli sample = .next t ∧ t.flags.i ≠ sample.flags.i) ∧
      (∃ t, exec .sed sample = .next t ∧ t.flags.d ≠ sample.flags.d) ∧ (∃ t, exec .brk sample = .next t ∧ t.flags.b ≠ sample.flags.b) ∧
      ∃ t, exec (.bitAbs 0x1234) { sample with flags := { sample.flags with v := true } } = .next t ∧ t.flags.v ≠ true :=
  ⟨⟨_, rfl, by decide⟩, ⟨_, rfl, by decide⟩, ⟨_, rfl, by decide⟩, ⟨_, rfl, by decide⟩, _, rfl, by decide⟩

/-- Each register changed by one of its writers. -/
theorem witness_RegistersHaveTheirWriters :
    (∃ t, exec (.ldaImm 0x01) sample = .next t ∧ t.a ≠ sample.a) ∧ (∃ t, exec .inx sample = .next t ∧ t.x ≠ sample.x) ∧
      (∃ t, exec .dey sample = .next t ∧ t.y ≠ sample.y) ∧ ∃ t, exec .pha sample = .next t ∧ t.sp ≠ sample.sp :=
  ⟨⟨_, rfl, by decide⟩, ⟨_, rfl, by decide⟩, ⟨_, rfl, by decide⟩, _, rfl, by decide⟩

/-- The line asserted, I set before; CLI leaves it clear and SEI leaves it set. -/
theorem witness_InterruptMaskActsAtTheNextBoundary :
    let s := { sample with irqLine := true }
    s.phase = .running ∧ s.schedule = [] ∧ s.nmiLatch = false ∧ s.irqLine = true ∧
      (∃ t, exec .cli s = .next t ∧ t.flags.i = false) ∧ (∃ t, exec .sei s = .next t ∧ t.flags.i = true) ∧
      (∃ t, exec .plp s = .next t ∧ t.flags.i = false) ∧ ∃ t, exec .rti s = .next t ∧ t.flags.i = false :=
  ⟨rfl, rfl, rfl, rfl, ⟨_, rfl, rfl⟩, ⟨_, rfl, rfl⟩, ⟨_, rfl, by decide⟩, _, rfl, by decide⟩

end Sys2Proof.Tests.Slice0
end

section
/-! PROOFS. When a tick fails: every unit of work the boundary sequence chooses ends in a next state, but the dispatch of an opcode
byte without a table entry in Strict mode (R12, R240, R241, R252-R254). -/

namespace Sys2Proof.Machine

open Sys2Proof.Safety

/-- Each of the five shapes ends in `finish`, so no instruction faults or is refused. -/
theorem exec_next (i : Instr) (s : State) : ∃ t, exec i s = .next t := by
  cases exec_shape i with
  | reads effect src base _ _ h => exact ⟨_, (h s).trans (readClass_eq effect src base s)⟩
  | stores v a base _ h => exact ⟨_, (h s).trans (store_eq (v s) a base s)⟩
  | modifies op tg base _ h =>
    cases tg with
    | acc => exact ⟨_, (h s).trans (modify_acc op base s)⟩
    | mem a => exact ⟨_, (h s).trans (modify_mem op a base s)⟩
  | branches c d h => exact ⟨_, (h s).trans (branch_eq (c s.flags) d 2 s)⟩
  | finishes f n _ _ h => exact ⟨(f s).charge n, h s⟩

/-- Fetching and reporting the opcode keep the parameters. -/
@[simp] theorem fetched_config (s : State) : (fetched s).config = s.config := by
  rw [fetched, trace_eq]
  rfl

/-- What the bus answers does not depend on the host's schedule. -/
@[simp] theorem busValue_afterCall (a : Word) (s : State) : busValue a (afterCall s) = busValue a s := rfl

/-- An opcode byte without a table entry is the Strict fault, or ends in a next state (R252, R253). -/
theorem unknownOpcode_cases (op : Byte) (pc : Word) (s : State) :
    (s.config.policy = .strict ∧ unknownOpcode op pc s = .fault (.unhandledOpcode op pc (s.setPc pc))) ∨
      (s.config.policy = .permissive ∧ ∃ t, unknownOpcode op pc s = .next t) := by
  cases h : s.config.policy with
  | strict => exact .inl ⟨rfl, by simp only [unknownOpcode, h]⟩
  | permissive => exact .inr ⟨rfl, by simp [unknownOpcode, h, finish]⟩

/-- A dispatch ends in a next state or meets an unknown opcode in Strict mode (R246, R252). -/
theorem dispatch_next_or_unhandledOpcode (s : State) :
    (∃ t, dispatch s = .next t) ∨
      (s.config.policy = .strict ∧ lookup (busValue s.pc s) = none ∧
        ∃ halted, dispatch s = .fault (.unhandledOpcode (busValue s.pc s) s.pc halted)) := by
  obtain ⟨hnone, hd⟩ | ⟨_, i, u, _, hd, _⟩ := dispatch_cases s
  · obtain ⟨hstrict, hu⟩ | ⟨_, t, hu⟩ := unknownOpcode_cases (busValue s.pc s) s.pc (fetched s)
    · exact .inr ⟨fetched_config s ▸ hstrict, hnone, _, hd.trans hu⟩
    · exact .inl ⟨t, hd.trans hu⟩
  · obtain ⟨t, ht⟩ := exec_next i u
    exact .inl ⟨t, hd.trans ht⟩

/-- A boundary ends in a next state or dispatches, with no interrupt to take (R241, R243, R244). -/
theorem boundary_next_or_dispatch (s : State) :
    (∃ t, boundary s = .next t) ∨
      (s.nmiLatch = false ∧ (s.flags.i = true ∨ s.irqLine = false) ∧ boundary s = dispatch s) := by
  obtain ⟨_, hb⟩ | ⟨_, _, _, hb⟩ | hdispatch := boundary_cases s
  · exact .inl ⟨_, hb⟩
  · exact .inl ⟨_, hb⟩
  · exact .inr hdispatch

/-- A tick of a reset core counts down or runs the boundary sequence (R240). -/
theorem tick_of_running {s : State} (h : s.phase = .running) :
    tick s = if s.cyc = 0 then boundary s else .next { s with cyc := s.cyc - 1 } := by
  simp only [tick, h]

/-- A step that is a tick ends in a next state or is the dispatch of the state after the call. -/
theorem step_next_or_dispatch {s : State} (h : Ticking s) :
    (∃ t, step s = .next t) ∨ (AtDispatch s ∧ step s = dispatch (afterCall s)) := by
  obtain ⟨hrunning, htick⟩ := h
  rw [step_of_nextIsTick htick, tick_of_running ((afterCall_phase s).trans hrunning)]
  by_cases hcyc : s.cyc = 0
  · rw [if_pos ((afterCall_cyc s).trans hcyc)]
    obtain hnext | ⟨hnmi, hirq, hb⟩ := boundary_next_or_dispatch (afterCall s)
    · exact .inl hnext
    · exact .inr ⟨⟨⟨⟨hrunning, htick⟩, hcyc⟩, hnmi, hirq⟩, hb⟩
  · rw [if_neg ((afterCall_cyc s).trans_ne hcyc)]
    exact .inl ⟨_, rfl⟩

/-- Settles O48: a tick that is no dispatch ends in a next state, and a dispatch fails for an unknown opcode in Strict mode
alone. -/
theorem unhandledOpcodeIsTheOnlyFault : Obligations.UnhandledOpcodeIsTheOnlyFault := by
  intro s hticking
  obtain hnext | ⟨hat, hstep⟩ := step_next_or_dispatch hticking
  · exact .inl hnext
  · rw [hstep]
    obtain hnext | hfault := dispatch_next_or_unhandledOpcode (afterCall s)
    · exact .inl hnext
    · exact .inr ⟨hat, hfault⟩

end Sys2Proof.Machine
end

section
/-! PROOFS. The countdown of a tick (R240). -/

namespace Sys2Proof.Machine

open Sys2Proof.Safety

/-- A step that is a tick of a reset core counts down, or runs the boundary sequence on the state after the call (R240, R264). -/
theorem step_of_ticking {s : State} (h : Ticking s) :
    step s = if s.cyc = 0 then boundary (afterCall s) else .next { afterCall s with cyc := s.cyc - 1 } := by
  obtain ⟨hrunning, htick⟩ := h
  exact (step_of_nextIsTick htick).trans (tick_of_running ((afterCall_phase s).trans hrunning))

/-- Settles O43: the two clauses are the two branches of the tick. -/
theorem tickCountsDownToTheBoundary : Obligations.TickCountsDownToTheBoundary := by
  intro s hticking
  have hstep := step_of_ticking hticking
  constructor
  · intro hcyc
    rwa [if_neg hcyc] at hstep
  · intro hcyc
    rwa [if_pos hcyc] at hstep

end Sys2Proof.Machine
end

section
/-! PROOFS. Decoding and encoding (R101, R102, R115-R117, R120): what the decoder answers for each form of table row, said once,
and the round trips both ways from it. -/

namespace Sys2Proof

open Sys2Proof.Safety

/-! The decoder, one lemma per form of row. -/

theorem decode_of_unassigned {op : Byte} {rest : List Byte} (h : lookup op = none) :
    decode (op :: rest) = .error (.unassigned op) := by
  simp only [decode, h]

theorem decode_of_bare {op : Byte} {row : Row} {i : Instr} {rest : List Byte} (h : lookup op = some row)
    (hf : row.form = .bare i) : decode (op :: rest) = .ok (i, rest.drop i.padding) := by
  simp only [decode, h, hf]

theorem decode_of_byte {op b : Byte} {row : Row} {k : Byte → Instr} {rest : List Byte} (h : lookup op = some row)
    (hf : row.form = .byte k) : decode (op :: b :: rest) = .ok (k b, rest) := by
  simp only [decode, h, hf]

theorem decode_of_word {op l u : Byte} {row : Row} {k : Word → Instr} {rest : List Byte} (h : lookup op = some row)
    (hf : row.form = .word k) : decode (op :: l :: u :: rest) = .ok (k (joinBytes u l), rest) := by
  simp only [decode, h, hf]

/-- What decodes has a row for its first byte, and that row's operand bytes after it. -/
theorem decode_ok_cases {bytes rest : List Byte} {i : Instr} (h : decode bytes = .ok (i, rest)) :
    ∃ op row, lookup op = some row ∧
      ((row.form = .bare i ∧ ∃ after, bytes = op :: after ∧ rest = after.drop i.padding) ∨
        (∃ k b, row.form = .byte k ∧ i = k b ∧ bytes = op :: b :: rest) ∨
        ∃ k l u, row.form = .word k ∧ i = k (joinBytes u l) ∧ bytes = op :: l :: u :: rest) := by
  cases bytes with
  | nil => simp [decode] at h
  | cons op after =>
    cases hl : lookup op with
    | none => simp [decode_of_unassigned hl] at h
    | some row =>
      refine ⟨op, row, hl, ?_⟩
      cases hf : row.form with
      | bare j =>
        rw [decode_of_bare hl hf] at h
        cases h
        exact .inl ⟨rfl, after, rfl, rfl⟩
      | byte k =>
        cases after with
        | nil => simp [decode, hl, hf] at h
        | cons b after =>
          rw [decode_of_byte hl hf] at h
          cases h
          exact .inr (.inl ⟨k, b, rfl, rfl, rfl⟩)
      | word k =>
        match after with
        | [] => simp [decode, hl, hf] at h
        | [l] => simp [decode, hl, hf] at h
        | l :: u :: after =>
          rw [decode_of_word hl hf] at h
          cases h
          exact .inr (.inr ⟨k, l, u, rfl, rfl, rfl⟩)

/-- Settles O1: the row of the instruction's opcode builds it from its operand bytes (`lookup_builds`). -/
theorem decodeInvertsEncode : Obligations.DecodeInvertsEncode := by
  intro i rest _
  obtain ⟨row, hl, hb⟩ := lookup_builds i
  have hbytes : encode i ++ rest = i.opcode :: (i.operand.bytes ++ (List.replicate i.padding 0x00 ++ rest)) := by
    simp [encode, Instr.fetchedBytes]
  rw [hbytes]
  unfold Form.Builds at hb
  split at hb
  case h_1 j hf =>
    obtain ⟨rfl, hoperand⟩ := hb
    rw [hoperand, List.nil_append, decode_of_bare hl hf, List.drop_left' List.length_replicate]
  case h_2 k hf =>
    obtain ⟨b, rfl, hoperand, hpadding⟩ := hb
    rw [hoperand, hpadding]
    exact decode_of_byte hl hf
  case h_3 k hf =>
    obtain ⟨w, rfl, hoperand, hpadding⟩ := hb
    rw [hoperand, hpadding]
    exact (decode_of_word hl hf).trans (by rw [Machine.joinBytes_hi_lo]; rfl)

/-- Settles O2: each row is sound, so what it builds has the bytes it was built from. -/
theorem encodeInvertsDecode : Obligations.EncodeInvertsDecode := by
  intro i bytes rest h
  obtain ⟨op, row, hl, hcases⟩ := decode_ok_cases h
  obtain ⟨hop, hsound⟩ := lookup_sound hl
  obtain ⟨hf, after, rfl, rfl⟩ | ⟨k, b, hf, rfl, rfl⟩ | ⟨k, l, u, hf, rfl, rfl⟩ := hcases
  · obtain ⟨hopcode, hoperand⟩ := hsound.bare hf
    exact ⟨after, by rw [Instr.fetchedBytes, hopcode, hop, hoperand]; rfl, rfl⟩
  · obtain ⟨hopcode, hoperand, hpadding⟩ := hsound.byte hf b
    exact ⟨rest, by rw [Instr.fetchedBytes, hopcode, hop, hoperand]; rfl, by rw [hpadding]; rfl⟩
  · obtain ⟨hopcode, hoperand, hpadding⟩ := hsound.word hf (joinBytes u l)
    refine ⟨rest, ?_, by rw [hpadding]; rfl⟩
    rw [Instr.fetchedBytes, hopcode, hop, hoperand, Machine.loByte_joinBytes, Machine.hiByte_joinBytes]
    rfl

/-- The table has no row for exactly the listed bytes (R117). -/
theorem lookup_eq_none_iff (op : Byte) : lookup op = none ↔ op ∈ unassignedBytes := by
  have hscan : ∀ op : Byte, (lookup op).isNone = unassignedBytes.contains op := by decide
  rw [← Option.isNone_iff_eq_none, hscan, List.contains_iff_mem]

/-- An opcode byte with a row never decodes to the refusal of an unassigned byte. -/
theorem lookup_of_decode_unassigned {op : Byte} {rest : List Byte} (h : decode (op :: rest) = .error (.unassigned op)) :
    lookup op = none := by
  cases hl : lookup op with
  | none => rfl
  | some row =>
    simp only [decode, hl] at h
    split at h <;> cases h

/-- Settles O3: a byte is refused as unassigned when, and only when, the table has no row for it. -/
theorem unassignedBytesAreRefused : Obligations.UnassignedBytesAreRefused := by
  refine ⟨rfl, fun op rest => ?_⟩
  rw [← lookup_eq_none_iff]
  exact ⟨lookup_of_decode_unassigned, decode_of_unassigned⟩

/-- Settles O4: the rows of the six opcode bytes, with the operand bytes put together low byte first. -/
theorem specWordsDecode : Obligations.SpecWordsDecode :=
  ⟨decode_of_byte rfl rfl, decode_of_word rfl rfl, decode_of_word rfl rfl, decode_of_byte rfl rfl, decode_of_bare rfl rfl,
    decode_of_byte rfl rfl⟩

theorem encode_length (i : Instr) : (encode i).length = i.length := by
  simp [encode, Instr.length]

/-- How many operand bytes a mode has (R101). -/
theorem operand_bytes_length (o : Operand) :
    o.bytes.length =
      match o.mode with
      | .imp | .acc => 0
      | .imm | .zp | .zpx | .zpy | .rel | .izx | .izy => 1
      | .abs | .absx | .absy | .ind => 2 := by
  cases o with
  | mem a => cases a <;> rfl
  | _ => rfl

/-- Settles O5: one opcode byte, the mode's operand bytes, and the padding byte of BRK. -/
theorem lengthFollowsMode : Obligations.LengthFollowsMode := by
  intro i
  refine ⟨encode_length i, ?_⟩
  have hlength : i.length = i.operand.bytes.length + 1 + i.padding := rfl
  by_cases hbrk : i = .brk
  · subst hbrk
    rfl
  · rw [hlength, operand_bytes_length, Instr.padding, if_neg hbrk]
    cases i.operand.mode <;> simp [hbrk]

end Sys2Proof
end

section
/-! PROOFS. The forms of all 151 instructions, and what exec does for each (R113, R160, R190). `Shape` says that an effect
touches registers alone; what the effect writes and what it does not look at needs the effect itself, which the forms of Safety
name. A fact about every instruction is shown once per form. -/

namespace Sys2Proof.Machine

open Sys2Proof.Safety

/-- Instructions without an operand of data: what they do to the state, and their cost (R172-R175, R200-R206, R215, R216,
R220-R233). -/
inductive FinishForm : Instr → (State → State) → Nat → Prop where
  | inx : FinishForm .inx (fun s => (s.setX (s.x + 1)).updateZN (s.x + 1)) 2
  | iny : FinishForm .iny (fun s => (s.setY (s.y + 1)).updateZN (s.y + 1)) 2
  | dex : FinishForm .dex (fun s => (s.setX (s.x - 1)).updateZN (s.x - 1)) 2
  | dey : FinishForm .dey (fun s => (s.setY (s.y - 1)).updateZN (s.y - 1)) 2
  | jmpAbs (w : Word) : FinishForm (.jmpAbs w) (fun s => s.setPc w) 3
  | jmpInd (w : Word) : FinishForm (.jmpInd w) (fun s => (resolveInd w s).st.setPc (resolveInd w s).ea) 5
  | jsr (w : Word) :
      FinishForm (.jsr w) (fun s => (push (loByte (s.pc - 1)) (push (hiByte (s.pc - 1)) s)).setPc w) 6
  | rts : FinishForm .rts (fun s => (pull (pull s).2).2.setPc (joinBytes (pull (pull s).2).1 (pull s).1 + 1)) 6
  | pha : FinishForm .pha (fun s => push s.a s) 3
  | php : FinishForm .php (fun s => push (pack true s.flags) s) 3
  | pla : FinishForm .pla (fun s => ((pull s).2.setA (pull s).1).updateZN (pull s).1) 4
  | plp : FinishForm .plp (fun s => (pull s).2.setFlags (unpack (pull s).1 (pull s).2.flags)) 4
  | brk : FinishForm .brk (fun s => enterInterrupt true irqVector (s.setPc (s.pc + 1))) 7
  | rti : FinishForm .rti returnFromInterrupt 6
  | tax : FinishForm .tax (fun s => (s.setX s.a).updateZN s.a) 2
  | tay : FinishForm .tay (fun s => (s.setY s.a).updateZN s.a) 2
  | txa : FinishForm .txa (fun s => (s.setA s.x).updateZN s.x) 2
  | tya : FinishForm .tya (fun s => (s.setA s.y).updateZN s.y) 2
  | tsx : FinishForm .tsx (fun s => (s.setX s.sp).updateZN s.sp) 2
  | txs : FinishForm .txs (fun s => s.setSp s.x) 2
  | clc : FinishForm .clc (fun s => s.setFlags { s.flags with c := false }) 2
  | cld : FinishForm .cld (fun s => s.setFlags { s.flags with d := false }) 2
  | cli : FinishForm .cli (fun s => s.setFlags { s.flags with i := false }) 2
  | clv : FinishForm .clv (fun s => s.setFlags { s.flags with v := false }) 2
  | sec : FinishForm .sec (fun s => s.setFlags { s.flags with c := true }) 2
  | sed : FinishForm .sed (fun s => s.setFlags { s.flags with d := true }) 2
  | sei : FinishForm .sei (fun s => s.setFlags { s.flags with i := true }) 2
  | nop : FinishForm .nop (fun s => s) 2

/-- An instruction is of one of the five forms. -/
inductive HasForm (i : Instr) : Prop where
  | reads {m : Mnemonic} {src : Source} {base : Nat} (h : ReadForm m i src base)
  | stores {m : Mnemonic} {a : Addr} {base : Nat} (h : StoreForm m i a base)
  | modifies {m : Mnemonic} {tg : Target} {base : Nat} (h : ModifyForm m i tg base)
  | branches {d : Byte} {cond : Flags → Bool} (h : BranchForm i d cond)
  | finishes {f : State → State} {n : Nat} (h : FinishForm i f n)

theorem hasForm (i : Instr) : HasForm i :=
  match i with
  | .ldaImm _ => .reads (.ldaImm _) | .ldaZp _ => .reads (.ldaZp _) | .ldaZpx _ => .reads (.ldaZpx _)
  | .ldaAbs _ => .reads (.ldaAbs _) | .ldaAbsx _ => .reads (.ldaAbsx _) | .ldaAbsy _ => .reads (.ldaAbsy _)
  | .ldaIzx _ => .reads (.ldaIzx _) | .ldaIzy _ => .reads (.ldaIzy _)
  | .ldxImm _ => .reads (.ldxImm _) | .ldxZp _ => .reads (.ldxZp _) | .ldxZpy _ => .reads (.ldxZpy _)
  | .ldxAbs _ => .reads (.ldxAbs _) | .ldxAbsy _ => .reads (.ldxAbsy _)
  | .ldyImm _ => .reads (.ldyImm _) | .ldyZp _ => .reads (.ldyZp _) | .ldyZpx _ => .reads (.ldyZpx _)
  | .ldyAbs _ => .reads (.ldyAbs _) | .ldyAbsx _ => .reads (.ldyAbsx _)
  | .staZp _ => .stores (.staZp _) | .staZpx _ => .stores (.staZpx _) | .staAbs _ => .stores (.staAbs _)
  | .staAbsx _ => .stores (.staAbsx _) | .staAbsy _ => .stores (.staAbsy _) | .staIzx _ => .stores (.staIzx _)
  | .staIzy _ => .stores (.staIzy _)
  | .stxZp _ => .stores (.stxZp _) | .stxZpy _ => .stores (.stxZpy _) | .stxAbs _ => .stores (.stxAbs _)
  | .styZp _ => .stores (.styZp _) | .styZpx _ => .stores (.styZpx _) | .styAbs _ => .stores (.styAbs _)
  | .adcImm _ => .reads (.adcImm _) | .adcZp _ => .reads (.adcZp _) | .adcZpx _ => .reads (.adcZpx _)
  | .adcAbs _ => .reads (.adcAbs _) | .adcAbsx _ => .reads (.adcAbsx _) | .adcAbsy _ => .reads (.adcAbsy _)
  | .adcIzx _ => .reads (.adcIzx _) | .adcIzy _ => .reads (.adcIzy _)
  | .sbcImm _ => .reads (.sbcImm _) | .sbcZp _ => .reads (.sbcZp _) | .sbcZpx _ => .reads (.sbcZpx _)
  | .sbcAbs _ => .reads (.sbcAbs _) | .sbcAbsx _ => .reads (.sbcAbsx _) | .sbcAbsy _ => .reads (.sbcAbsy _)
  | .sbcIzx _ => .reads (.sbcIzx _) | .sbcIzy _ => .reads (.sbcIzy _)
  | .andImm _ => .reads (.andImm _) | .andZp _ => .reads (.andZp _) | .andZpx _ => .reads (.andZpx _)
  | .andAbs _ => .reads (.andAbs _) | .andAbsx _ => .reads (.andAbsx _) | .andAbsy _ => .reads (.andAbsy _)
  | .andIzx _ => .reads (.andIzx _) | .andIzy _ => .reads (.andIzy _)
  | .oraImm _ => .reads (.oraImm _) | .oraZp _ => .reads (.oraZp _) | .oraZpx _ => .reads (.oraZpx _)
  | .oraAbs _ => .reads (.oraAbs _) | .oraAbsx _ => .reads (.oraAbsx _) | .oraAbsy _ => .reads (.oraAbsy _)
  | .oraIzx _ => .reads (.oraIzx _) | .oraIzy _ => .reads (.oraIzy _)
  | .eorImm _ => .reads (.eorImm _) | .eorZp _ => .reads (.eorZp _) | .eorZpx _ => .reads (.eorZpx _)
  | .eorAbs _ => .reads (.eorAbs _) | .eorAbsx _ => .reads (.eorAbsx _) | .eorAbsy _ => .reads (.eorAbsy _)
  | .eorIzx _ => .reads (.eorIzx _) | .eorIzy _ => .reads (.eorIzy _)
  | .aslAcc => .modifies .aslAcc | .aslZp _ => .modifies (.aslZp _) | .aslZpx _ => .modifies (.aslZpx _)
  | .aslAbs _ => .modifies (.aslAbs _) | .aslAbsx _ => .modifies (.aslAbsx _)
  | .lsrAcc => .modifies .lsrAcc | .lsrZp _ => .modifies (.lsrZp _) | .lsrZpx _ => .modifies (.lsrZpx _)
  | .lsrAbs _ => .modifies (.lsrAbs _) | .lsrAbsx _ => .modifies (.lsrAbsx _)
  | .rolAcc => .modifies .rolAcc | .rolZp _ => .modifies (.rolZp _) | .rolZpx _ => .modifies (.rolZpx _)
  | .rolAbs _ => .modifies (.rolAbs _) | .rolAbsx _ => .modifies (.rolAbsx _)
  | .rorAcc => .modifies .rorAcc | .rorZp _ => .modifies (.rorZp _) | .rorZpx _ => .modifies (.rorZpx _)
  | .rorAbs _ => .modifies (.rorAbs _) | .rorAbsx _ => .modifies (.rorAbsx _)
  | .incZp _ => .modifies (.incZp _) | .incZpx _ => .modifies (.incZpx _) | .incAbs _ => .modifies (.incAbs _)
  | .incAbsx _ => .modifies (.incAbsx _)
  | .decZp _ => .modifies (.decZp _) | .decZpx _ => .modifies (.decZpx _) | .decAbs _ => .modifies (.decAbs _)
  | .decAbsx _ => .modifies (.decAbsx _)
  | .inx => .finishes .inx
  | .iny => .finishes .iny
  | .dex => .finishes .dex
  | .dey => .finishes .dey
  | .cmpImm _ => .reads (.cmpImm _) | .cmpZp _ => .reads (.cmpZp _) | .cmpZpx _ => .reads (.cmpZpx _)
  | .cmpAbs _ => .reads (.cmpAbs _) | .cmpAbsx _ => .reads (.cmpAbsx _) | .cmpAbsy _ => .reads (.cmpAbsy _)
  | .cmpIzx _ => .reads (.cmpIzx _) | .cmpIzy _ => .reads (.cmpIzy _)
  | .cpxImm _ => .reads (.cpxImm _) | .cpxZp _ => .reads (.cpxZp _) | .cpxAbs _ => .reads (.cpxAbs _)
  | .cpyImm _ => .reads (.cpyImm _) | .cpyZp _ => .reads (.cpyZp _) | .cpyAbs _ => .reads (.cpyAbs _)
  | .bitZp _ => .reads (.bitZp _) | .bitAbs _ => .reads (.bitAbs _)
  | .bpl _ => .branches (.bpl _)
  | .bmi _ => .branches (.bmi _)
  | .bvc _ => .branches (.bvc _)
  | .bvs _ => .branches (.bvs _)
  | .bcc _ => .branches (.bcc _)
  | .bcs _ => .branches (.bcs _)
  | .bne _ => .branches (.bne _)
  | .beq _ => .branches (.beq _)
  | .jmpAbs _ => .finishes (.jmpAbs _) | .jmpInd _ => .finishes (.jmpInd _)
  | .jsr _ => .finishes (.jsr _)
  | .rts => .finishes .rts
  | .pha => .finishes .pha
  | .php => .finishes .php
  | .pla => .finishes .pla
  | .plp => .finishes .plp
  | .brk => .finishes .brk
  | .rti => .finishes .rti
  | .tax => .finishes .tax
  | .tay => .finishes .tay
  | .txa => .finishes .txa
  | .tya => .finishes .tya
  | .tsx => .finishes .tsx
  | .txs => .finishes .txs
  | .clc => .finishes .clc
  | .cld => .finishes .cld
  | .cli => .finishes .cli
  | .clv => .finishes .clv
  | .sec => .finishes .sec
  | .sed => .finishes .sed
  | .sei => .finishes .sei
  | .nop => .finishes .nop

/-- What a reading mnemonic does with its operand (R140-R142, R151-R155, R181-R184). -/
def readEffect (m : Mnemonic) : Byte → State → State :=
  match m with
  | .lda => ldaEffect
  | .ldx => ldxEffect
  | .ldy => ldyEffect
  | .adc => adcEffect
  | .sbc => sbcEffect
  | .and => andEffect
  | .ora => oraEffect
  | .eor => eorEffect
  | .cmp => cmpEffect
  | .cpx => cpxEffect
  | .cpy => cpyEffect
  | .bit => bitEffect
  | _ => fun _ s => s

/-- The operation of a read-modify-write mnemonic (R161-R164, R170, R171). -/
def modifyOp (m : Mnemonic) : Byte → Flags → Byte × Flags :=
  match m with
  | .asl => aslOp
  | .lsr => lsrOp
  | .rol => rolOp
  | .ror => rorOp
  | .inc => incOp
  | .dec => decOp
  | _ => fun v f => (v, f)

/-! What exec does for each form. -/

theorem exec_of_readForm {m : Mnemonic} {i : Instr} {src : Source} {base : Nat} (h : ReadForm m i src base) (s : State) :
    exec i s = readClass (readEffect m) src base s := by
  cases h <;> rfl

theorem exec_of_storeForm {m : Mnemonic} {i : Instr} {a : Addr} {base : Nat} (h : StoreForm m i a base) (s : State) :
    exec i s = store (storedValue m s) a base s := by
  cases h <;> rfl

theorem exec_of_modifyForm {m : Mnemonic} {i : Instr} {tg : Target} {base : Nat} (h : ModifyForm m i tg base) (s : State) :
    exec i s = modify (modifyOp m) tg base s := by
  cases h <;> rfl

theorem exec_of_branchForm {i : Instr} {d : Byte} {cond : Flags → Bool} (h : BranchForm i d cond) (s : State) :
    exec i s = branch (cond s.flags) d 2 s := by
  cases h <;> rfl

theorem exec_of_finishForm {i : Instr} {f : State → State} {n : Nat} (h : FinishForm i f n) (s : State) :
    exec i s = finish n (f s) := by
  cases h <;> rfl

/-! The mnemonic of each form is its instruction's. -/

theorem mnemonic_of_readForm {m : Mnemonic} {i : Instr} {src : Source} {base : Nat} (h : ReadForm m i src base) :
    i.mnemonic = m := by
  cases h <;> rfl

theorem mnemonic_of_modifyForm {m : Mnemonic} {i : Instr} {tg : Target} {base : Nat} (h : ModifyForm m i tg base) :
    i.mnemonic = m := by
  cases h <;> rfl

/-- Reading an operand changes the bus history alone. -/
theorem readSource_st_eq (src : Source) (s : State) :
    (readSource src s).st = { s with busHistory := (readSource src s).st.busHistory } := by
  cases src with
  | imm v => rfl
  | mem a => cases a <;> rfl

/-- Reading effects touch registers and flags alone. -/
theorem readEffect_onlyRegisters (m : Mnemonic) (v : Byte) (s : State) : OnlyRegisters s (readEffect m v s) := by
  unfold readEffect
  split <;> exact ⟨sameOutside_refl s, rfl, rfl⟩

theorem readEffect_pc (m : Mnemonic) (v : Byte) (s : State) : (readEffect m v s).pc = s.pc := by
  unfold readEffect
  split <;> rfl

theorem readEffect_sp (m : Mnemonic) (v : Byte) (s : State) : (readEffect m v s).sp = s.sp := by
  unfold readEffect
  split <;> rfl

/-- No reading effect looks at the bus history. -/
theorem readEffect_busHistory (m : Mnemonic) (v : Byte) (s : State) (es : List BusEvent) :
    readEffect m v { s with busHistory := es } = { readEffect m v s with busHistory := es } := by
  unfold readEffect
  split <;> rfl

/-- What a reading instruction does: its effect on A, X, Y and the flags, and the frame of every reading instruction. -/
theorem exec_readForm {m : Mnemonic} {i : Instr} {src : Source} {base : Nat} (h : ReadForm m i src base) (s : State) :
    ∃ t, exec i s = .next t ∧ t.a = (readEffect m (readSource src s).value s).a ∧
      t.x = (readEffect m (readSource src s).value s).x ∧ t.y = (readEffect m (readSource src s).value s).y ∧
      t.flags = (readEffect m (readSource src s).value s).flags ∧ ReadFrame s t src base := by
  have hexec := (exec_of_readForm h s).trans (readClass_eq _ src base s)
  rw [readSource_st_eq, readEffect_busHistory] at hexec
  have hframe := readEffect_onlyRegisters m (readSource src s).value s
  refine ⟨_, hexec, rfl, rfl, rfl, rfl, readEffect_pc .., readEffect_sp .., fun a => ?_, hframe.outside, rfl, rfl⟩
  exact congrArg (fun mem : Memory => mem.read a) hframe.mem

end Sys2Proof.Machine
end

section
/-! PROOFS. What each instruction costs: its row's base cycles and what the operand or the branch adds (R114, R119, R190). -/

namespace Sys2Proof.Machine

open Sys2Proof.Safety

/-- The table row of `i` has these base cycles, and `extra` is what `i` costs beyond them: 2 to 7 in all. -/
def RowCosts (i : Instr) (base : Nat) (extra : State → Nat) : Prop :=
  ∃ row, lookup i.opcode = some row ∧ row.baseCycles = base ∧ 2 ≤ base ∧
    ∀ s, extraCycles i row.pageCross s = extra s ∧ base + extra s ≤ 7

theorem rowCosts_of_row {i : Instr} {base : Nat} {cross : Bool} {extra : State → Nat}
    (hrow : (lookup i.opcode).map (fun row => (row.baseCycles, row.pageCross)) = some (base, cross)) (hlow : 2 ≤ base)
    (hextra : ∀ s, extraCycles i cross s = extra s) (hhigh : ∀ s, base + extra s ≤ 7) : RowCosts i base extra := by
  obtain ⟨row, hlookup, hcolumns⟩ := Option.map_eq_some_iff.1 hrow
  obtain ⟨rfl, rfl⟩ := Prod.mk.inj hcolumns
  exact ⟨row, hlookup, rfl, hlow, fun s => ⟨hextra s, hhigh s⟩⟩

/-- The operands whose page cross a reading instruction pays for: those with an index added to a 16-bit base (R114). -/
def paysForCross : Source → Bool
  | .mem (.absx _) | .mem (.absy _) | .mem (.izy _) => true
  | _ => false

theorem readForm_rowCosts {m : Mnemonic} {i : Instr} {src : Source} {base : Nat} (h : ReadForm m i src base) :
    RowCosts i base fun s => (readSource src s).crossed.toNat := by
  refine rowCosts_of_row (cross := paysForCross src) ?_ ?_ (fun _ => ?_) fun s => ?_
  · cases h <;> simp only [Instr.opcode] <;> rfl
  · cases h <;> decide
  · cases h <;> rfl
  · have hbase : base ≤ 6 := by cases h <;> decide
    exact Nat.add_le_add hbase (toNat_bool_le (readSource src s).crossed)

theorem storeForm_rowCosts {m : Mnemonic} {i : Instr} {a : Addr} {base : Nat} (h : StoreForm m i a base) :
    RowCosts i base fun _ => 0 := by
  refine rowCosts_of_row (cross := false) ?_ ?_ (fun _ => ?_) fun _ => ?_
  · cases h <;> simp only [Instr.opcode] <;> rfl
  · cases h <;> decide
  · cases h <;> rfl
  · cases h <;> decide

theorem modifyForm_rowCosts {m : Mnemonic} {i : Instr} {tg : Target} {base : Nat} (h : ModifyForm m i tg base) :
    RowCosts i base fun _ => 0 := by
  refine rowCosts_of_row (cross := false) ?_ ?_ (fun _ => ?_) fun _ => ?_
  · cases h <;> simp only [Instr.opcode] <;> rfl
  · cases h <;> decide
  · cases h <;> rfl
  · cases h <;> decide

theorem branchForm_rowCosts {i : Instr} {d : Byte} {cond : Flags → Bool} (h : BranchForm i d cond) :
    RowCosts i 2 fun s => if cond s.flags then 1 + (resolveRel d s).crossed.toNat else 0 := by
  refine rowCosts_of_row (cross := false) ?_ le_rfl (fun _ => ?_) fun s => ?_
  · cases h <;> simp only [Instr.opcode] <;> rfl
  · cases h <;> rfl
  · have := toNat_bool_le (resolveRel d s).crossed
    split <;> omega

theorem finishForm_rowCosts {i : Instr} {f : State → State} {n : Nat} (h : FinishForm i f n) : RowCosts i n fun _ => 0 := by
  refine rowCosts_of_row (cross := false) ?_ ?_ (fun _ => ?_) fun _ => ?_
  · cases h <;> simp only [Instr.opcode] <;> rfl
  · cases h <;> decide
  · cases h <;> rfl
  · cases h <;> decide

/-- What an instruction leaves in the countdown is what its row says. -/
theorem exec_rowCosts {i : Instr} {s t : State} (hexec : exec i s = .next t) :
    ∃ base extra, RowCosts i base extra ∧ t.cyc = BitVec.ofNat 32 (base + extra s) := by
  cases hasForm i with
  | reads h =>
    rw [exec_of_readForm h, readClass_eq] at hexec
    cases hexec
    exact ⟨_, _, readForm_rowCosts h, rfl⟩
  | stores h =>
    rw [exec_of_storeForm h, store_eq] at hexec
    cases hexec
    exact ⟨_, _, storeForm_rowCosts h, rfl⟩
  | @modifies m tg base h =>
    refine ⟨_, _, modifyForm_rowCosts h, ?_⟩
    rw [exec_of_modifyForm h] at hexec
    cases tg with
    | acc =>
      cases hexec
      rfl
    | mem a =>
      rw [modify_mem] at hexec
      cases hexec
      rfl
  | @branches d cond h =>
    refine ⟨_, _, branchForm_rowCosts h, ?_⟩
    rw [exec_of_branchForm h, branch_eq] at hexec
    cases hexec
    cases cond s.flags with
    | true => exact congrArg (BitVec.ofNat 32) (Nat.add_assoc 2 1 _)
    | false => rfl
  | finishes h =>
    rw [exec_of_finishForm h] at hexec
    cases hexec
    exact ⟨_, _, finishForm_rowCosts h, rfl⟩

/-- The countdown an instruction leaves is its row's cost, 2 to 7 cycles (R119). -/
theorem exec_cost {i : Instr} {s t : State} (hexec : exec i s = .next t) :
    ∃ row, lookup i.opcode = some row ∧ t.cyc.toNat = row.baseCycles + extraCycles i row.pageCross s ∧
      2 ≤ t.cyc.toNat ∧ t.cyc.toNat ≤ 7 := by
  obtain ⟨base, extra, ⟨row, hrow, rfl, hlow, hextra⟩, hcyc⟩ := exec_rowCosts hexec
  obtain ⟨hextra, hhigh⟩ := hextra s
  have hcost : t.cyc.toNat = row.baseCycles + extra s := by
    rw [hcyc, BitVec.toNat_ofNat]
    omega
  exact ⟨row, hrow, hcost.trans (by rw [hextra]), by omega, by omega⟩

/-- Settles O49: every instruction ends in a next state, and its row gives the cost. -/
theorem everyInstructionCompletesAtItsCost : Obligations.EveryInstructionCompletesAtItsCost := by
  intro i s
  obtain ⟨t, hexec⟩ := exec_next i s
  obtain ⟨row, hrow, hcost⟩ := exec_cost hexec
  exact ⟨t, row, hexec, hrow, hcost⟩

end Sys2Proof.Machine
end

section
/-! PROOFS. What every step keeps (R49, R84, R85, R264): one inversion of a tick that ends in a next state, and from it the bus
accounts, the bound of the countdown and the lines of the environment. -/

namespace Sys2Proof.Machine

open Sys2Proof.Safety

/-- `t` follows from `s` by bus accesses, reports and writes of anything but the parameters: what `BusStep` keeps when the trace
hook, the diagnostics collaborator or the interrupt inputs may also have been written. -/
structure BusAccount (s t : State) : Prop where
  config : t.config = s.config
  busMap : t.busMap = s.busMap
  accounted : ∃ es : List BusEvent, t.busHistory = es.reverse ++ s.busHistory ∧ replay s.busMap es s.mem = some t.mem
  wf : s.mem.wf = true → t.mem.wf = true

theorem BusStep.busAccount {s t : State} (h : BusStep s t) : BusAccount s t where
  config := by
    obtain ⟨_, _, hconfig, _⟩ := h.outside
    exact hconfig
  busMap := by
    obtain ⟨_, _, _, hbusMap, _⟩ := h.outside
    exact hbusMap
  accounted := h.accounted
  wf := h.wf

/-- A change of neither parameters, memory nor history. -/
theorem BusAccount.of_eq {s t : State} (hconfig : t.config = s.config) (hbusMap : t.busMap = s.busMap) (hmem : t.mem = s.mem)
    (hhistory : t.busHistory = s.busHistory) : BusAccount s t where
  config := hconfig
  busMap := hbusMap
  accounted := ⟨[], hhistory, by rw [hmem]; rfl⟩
  wf h := hmem ▸ h

theorem BusAccount.trans {s t u : State} (h : BusAccount s t) (k : BusAccount t u) : BusAccount s u where
  config := k.config.trans h.config
  busMap := k.busMap.trans h.busMap
  accounted := by
    obtain ⟨es, hhistory, hreplay⟩ := h.accounted
    obtain ⟨fs, khistory, kreplay⟩ := k.accounted
    rw [h.busMap] at kreplay
    exact ⟨es ++ fs, by rw [khistory, hhistory, List.reverse_append, List.append_assoc], by rw [replay_append hreplay, kreplay]⟩
  wf hw := k.wf (h.wf hw)

/-- The interrupt inputs are as before. -/
def SameLines (s t : State) : Prop := t.nmiLatch = s.nmiLatch ∧ t.irqLine = s.irqLine

theorem BusStep.sameLines {s t : State} (h : BusStep s t) : SameLines s t := by
  obtain ⟨hnmi, hirq, _⟩ := h.outside
  exact ⟨hnmi, hirq⟩

theorem SameLines.trans {s t u : State} (h : SameLines s t) (k : SameLines t u) : SameLines s u :=
  ⟨k.1.trans h.1, k.2.trans h.2⟩

theorem busAccount_afterCall (s : State) : BusAccount s (afterCall s) := .of_eq rfl rfl rfl rfl

theorem busAccount_trace (pc : Word) (op : Byte) (s : State) : BusAccount s (trace pc op s) := by
  rw [trace_eq]
  exact .of_eq rfl rfl rfl rfl

theorem sameLines_trace (pc : Word) (op : Byte) (s : State) : SameLines s (trace pc op s) := by
  rw [trace_eq]
  exact ⟨rfl, rfl⟩

theorem busAccount_fetched (s : State) : BusAccount s (fetched s) :=
  (busStep_fetch8 s).busAccount.trans (busAccount_trace _ _ _)

theorem sameLines_fetched (s : State) : SameLines s (fetched s) := (busStep_fetch8 s).sameLines.trans (sameLines_trace _ _ _)

/-- An unknown opcode that ends in a next state is Permissive mode's no-op (R253). -/
theorem unknownOpcode_next {op : Byte} {pc : Word} {s t : State} (h : unknownOpcode op pc s = .next t) :
    t = { s with diagLog := ⟨op, pc⟩ :: s.diagLog }.charge 2 := by
  unfold unknownOpcode at h
  split at h
  case h_1 => cases h
  case h_2 =>
    cases h
    rfl

/-- A dispatch that ends in a next state passed an unknown opcode, or ran an instruction after its operand's fetch (R246). -/
theorem dispatch_next_cases {s t : State} (h : dispatch s = .next t) :
    t = { fetched s with diagLog := ⟨busValue s.pc s, s.pc⟩ :: (fetched s).diagLog }.charge 2 ∨
      ∃ i u, BusStep (fetched s) u ∧ exec i u = .next t := by
  obtain ⟨_, hd⟩ | ⟨row, i, u, _, hd, hoperand⟩ := dispatch_cases s
  · exact .inl (unknownOpcode_next (hd ▸ h))
  · refine .inr ⟨i, u, ?_, hd ▸ h⟩
    obtain ⟨_, rfl⟩ | ⟨_, _, _, rfl⟩ | ⟨_, _, _, rfl⟩ := hoperand
    · exact .refl _
    · exact busStep_fetch8 _
    · exact busStep_fetch16 _

/-- A tick that ends in a next state counts down, services an NMI, services an IRQ, passes an unknown opcode, or runs an
instruction (R240, R241, R246). -/
theorem tick_next_cases {s t : State} (h : tick s = .next t) :
    (s.cyc ≠ 0 ∧ t = { s with cyc := s.cyc - 1 }) ∨
      (s.cyc = 0 ∧ s.nmiLatch = true ∧ t = (enterInterrupt false nmiVector { s with nmiLatch := false }).charge 7) ∨
      t = (enterInterrupt false irqVector s).charge 7 ∨
      t = { fetched s with diagLog := ⟨busValue s.pc s, s.pc⟩ :: (fetched s).diagLog }.charge 2 ∨
      ∃ i u, BusStep (fetched s) u ∧ exec i u = .next t := by
  have hphase : s.phase = .running := by
    cases hp : s.phase with
    | running => rfl
    | unreset => simp [tick, hp] at h
  rw [tick_of_running hphase] at h
  by_cases hcyc : s.cyc = 0
  · rw [if_pos hcyc] at h
    obtain ⟨hnmi, hb⟩ | ⟨_, _, _, hb⟩ | ⟨_, _, hb⟩ := boundary_cases s <;> rw [hb] at h
    · cases h
      exact .inr (.inl ⟨hcyc, hnmi, rfl⟩)
    · cases h
      exact .inr (.inr (.inl rfl))
    · exact .inr (.inr (.inr (dispatch_next_cases h)))
  · rw [if_neg hcyc] at h
    cases h
    exact .inl ⟨hcyc, rfl⟩

theorem tick_busAccount {s t : State} (h : tick s = .next t) : BusAccount s t := by
  obtain ⟨_, rfl⟩ | ⟨_, _, rfl⟩ | rfl | rfl | ⟨i, u, hu, hexec⟩ := tick_next_cases h
  · exact .of_eq rfl rfl rfl rfl
  · have hclear : BusAccount s { s with nmiLatch := false } := .of_eq rfl rfl rfl rfl
    exact hclear.trans ((busStep_enterInterrupt _ _ _).trans (busStep_charge _ _)).busAccount
  · exact ((busStep_enterInterrupt _ _ _).trans (busStep_charge _ _)).busAccount
  · exact (busAccount_fetched s).trans (.of_eq rfl rfl rfl rfl)
  · exact (busAccount_fetched s).trans (hu.trans (exec_busStep hexec)).busAccount

/-- A tick writes no interrupt input, but clears the latch of the NMI it services (R50, R51, R243). -/
theorem tick_lines {s t : State} (h : tick s = .next t) :
    SameLines s t ∨ (s.cyc = 0 ∧ s.nmiLatch = true ∧ t.nmiLatch = false ∧ t.irqLine = s.irqLine) := by
  obtain ⟨_, rfl⟩ | ⟨hcyc, hnmi, rfl⟩ | rfl | rfl | ⟨i, u, hu, hexec⟩ := tick_next_cases h
  · exact .inl ⟨rfl, rfl⟩
  · have hentry := (busStep_enterInterrupt false nmiVector { s with nmiLatch := false }).sameLines
    exact .inr ⟨hcyc, hnmi, hentry⟩
  · exact .inl ((busStep_enterInterrupt _ _ _).trans (busStep_charge _ _)).sameLines
  · exact .inl ((sameLines_fetched s).trans ⟨rfl, rfl⟩)
  · exact .inl ((sameLines_fetched s).trans (hu.trans (exec_busStep hexec)).sameLines)

/-- A small cost fits the countdown. -/
theorem charge_cyc_toNat {n : Nat} (h : n ≤ 7) (s : State) : (s.charge n).cyc.toNat = n := by
  rw [State.charge_cyc, BitVec.toNat_ofNat, Nat.mod_eq_of_lt (by omega)]

/-- No instruction costs more than 7 cycles (R119). -/
theorem exec_cyc_le {i : Instr} {s t : State} (h : exec i s = .next t) : t.cyc.toNat ≤ 7 := by
  obtain ⟨_, _, _, _, hhigh⟩ := exec_cost h
  exact hhigh

theorem tick_cyc_le {s t : State} (hs : s.cyc.toNat ≤ 7) (h : tick s = .next t) : t.cyc.toNat ≤ 7 := by
  obtain ⟨hcyc, rfl⟩ | ⟨_, _, rfl⟩ | rfl | rfl | ⟨i, u, _, hexec⟩ := tick_next_cases h
  · show (s.cyc - 1).toNat ≤ 7
    bv_omega
  · exact (charge_cyc_toNat le_rfl _).le
  · exact (charge_cyc_toNat le_rfl _).le
  · exact (charge_cyc_toNat (n := 2) (by decide) _).trans_le (by decide)
  · exact exec_cyc_le hexec

theorem busAccount_hostReset (automation : Bool) (s : State) : BusAccount s (hostReset automation s) := by
  have hset : BusAccount s { s with sp := 0xFD, flags := resetFlags, phase := .running } := .of_eq rfl rfl rfl rfl
  cases automation with
  | true => exact hset.trans ((busStep_setPc _ _).trans (busStep_charge _ _)).busAccount
  | false => exact hset.trans (((busStep_read16 _ _ _).trans (busStep_setPc _ _)).trans (busStep_charge _ _)).busAccount

/-- A step is the host's change of one byte of memory, or its accesses account for what it does to memory. -/
theorem step_busAccount {s t : State} (h : step s = .next t) :
    BusAccount s t ∨
      ∃ a v later, s.schedule = .pokeBus a v :: later ∧ t = { afterCall s with mem := s.mem.write a.toNat v } := by
  obtain htick | ⟨_, _, _, hs⟩ | ⟨_, _, _, hs⟩ | ⟨_, _, _, hs⟩ | ⟨a, v, later, hsched, hs⟩ | ⟨_, _, _, hs⟩ := step_cases s
  · rw [step_of_nextIsTick htick] at h
    exact .inl ((busAccount_afterCall s).trans (tick_busAccount h))
  all_goals
    rw [hs] at h
    cases h
  · exact .inl ((busAccount_afterCall s).trans (busAccount_hostReset _ _))
  · exact .inl (.of_eq rfl rfl rfl rfl)
  · exact .inl (.of_eq rfl rfl rfl rfl)
  · exact .inr ⟨a, v, later, hsched, rfl⟩
  · exact .inl (.of_eq rfl rfl rfl rfl)

/-- A countdown within 7 stays within 7. -/
theorem step_cyc_le {s t : State} (hs : s.cyc.toNat ≤ 7) (h : step s = .next t) : t.cyc.toNat ≤ 7 := by
  obtain htick | ⟨_, _, _, hstep⟩ | ⟨_, _, _, hstep⟩ | ⟨_, _, _, hstep⟩ | ⟨_, _, _, _, hstep⟩ | ⟨_, _, _, hstep⟩ := step_cases s
  · rw [step_of_nextIsTick htick] at h
    exact tick_cyc_le (s := afterCall s) hs h
  all_goals
    rw [hstep] at h
    cases h
  · exact (charge_cyc_toNat le_rfl _).le
  all_goals exact hs

/-- Settles O53: every access keeps the canonical form, and every cost and every countdown is at most 7. -/
theorem stepKeepsInvariant : Obligations.StepKeepsInvariant := by
  intro s t hinv hstep
  obtain ⟨hwf, hcyc⟩ := hinv
  refine ⟨?_, step_cyc_le hcyc hstep⟩
  obtain haccount | ⟨a, v, _, _, rfl⟩ := step_busAccount hstep
  · exact haccount.wf hwf
  · exact Memory.write_wf a.isLt hwf

/-- Settles O54: the bus account of a step that is not the host's change of memory. -/
theorem historyAccountsForMemory : Obligations.HistoryAccountsForMemory := by
  intro s t hpoke hstep
  obtain haccount | ⟨a, v, later, hsched, _⟩ := step_busAccount hstep
  · exact haccount.accounted
  · exact absurd hsched (hpoke a v later)

theorem step_busMap {s t : State} (h : step s = .next t) : t.busMap = s.busMap := by
  obtain haccount | ⟨_, _, _, _, rfl⟩ := step_busAccount h
  · exact haccount.busMap
  · rfl

theorem step_config {s t : State} (h : step s = .next t) : t.config = s.config := by
  obtain haccount | ⟨_, _, _, _, rfl⟩ := step_busAccount h
  · exact haccount.config
  · rfl

/-- A step whose host call stands on the schedule is that call. -/
theorem step_of_call {s : State} {call : HostCall} {later : List HostCall} (h : s.schedule = call :: later) :
    step s = hostCall call { s with schedule := later } := by
  simp only [step, h]

/-- Settles O55: the accounts give the parameters, `tick_lines` the interrupt inputs, and each act of the host is one update. -/
theorem environmentIsTheHosts : Obligations.EnvironmentIsTheHosts := by
  constructor
  · intro s t hstep
    have hlines : Ticking s → SameLines (afterCall s) t ∨
        (s.cyc = 0 ∧ s.nmiLatch = true ∧ t.nmiLatch = false ∧ t.irqLine = s.irqLine) := fun hticking =>
      tick_lines ((step_of_nextIsTick hticking.2).symm.trans hstep)
    refine ⟨step_config hstep, step_busMap hstep, fun hticking => ?_, fun hticking => ?_⟩
    · obtain ⟨_, hirq⟩ | ⟨_, _, _, hirq⟩ := hlines hticking
      · exact hirq
      · exact hirq
    · obtain ⟨hnmi, _⟩ | ⟨hcyc, hset, hclear, _⟩ := hlines hticking
      · exact .inl hnmi
      · exact .inr ⟨⟨hticking, hcyc⟩, hset, hclear⟩
  · intro s later
    refine ⟨fun _ h => step_of_call h, fun _ h => step_of_call h, fun _ h => step_of_call h, fun a v h => ?_⟩
    exact ⟨_, step_of_call h, rfl, Memory.read_write_same, fun b hb => Memory.read_write_other hb⟩

end Sys2Proof.Machine
end

section
/-! PROOFS. Changes of the state that the machine does not look at: the trace hook (R256), the stored B with the countdown (R46,
R258), and D for the reading instructions (R45, R150). Each is a function on states that commutes with what a form does. -/

namespace Sys2Proof.Machine

open Sys2Proof.Safety

/-- `f` changes nothing that forming an address or a bus read looks at, and is not changed by a read. -/
structure UnseenByReads (f : State → State) : Prop where
  x : ∀ s, (f s).x = s.x
  y : ∀ s, (f s).y = s.y
  value : ∀ a s, busValue a (f s) = busValue a s
  read : ∀ a s, afterRead a (f s) = f (afterRead a s)

theorem UnseenByReads.read16 {f : State → State} (h : UnseenByReads f) (lo hi : Word) (s : State) :
    read16 lo hi (f s) = ((read16 lo hi s).1, f (read16 lo hi s).2) := by
  simp only [Machine.read16, memRead, h.value, h.read]

theorem UnseenByReads.resolve {f : State → State} (h : UnseenByReads f) (a : Addr) (s : State) :
    resolve a (f s) = { resolve a s with st := f (resolve a s).st } := by
  cases a with
  | zp z => rfl
  | zpx z => simp only [Machine.resolve, resolveZpIndexed, h.x]
  | zpy z => simp only [Machine.resolve, resolveZpIndexed, h.y]
  | abs w => rfl
  | absx w => simp only [Machine.resolve, resolveAbsIndexed, h.x]
  | absy w => simp only [Machine.resolve, resolveAbsIndexed, h.y]
  | izx z => simp only [Machine.resolve, resolveIzx, h.x, h.read16]
  | izy z => simp only [Machine.resolve, resolveIzy, h.y, h.read16]

theorem UnseenByReads.readSource {f : State → State} (h : UnseenByReads f) (src : Source) (s : State) :
    readSource src (f s) = { readSource src s with st := f (readSource src s).st } := by
  cases src with
  | imm v => rfl
  | mem a => simp only [Machine.readSource, memRead, h.resolve, h.value, h.read]

/-! The trace hook. -/

theorem untraced_unseen : UnseenByReads untraced := ⟨fun _ => rfl, fun _ => rfl, fun _ _ => rfl, fun _ _ => rfl⟩

theorem readEffect_untraced (m : Mnemonic) (v : Byte) (s : State) :
    readEffect m v (untraced s) = untraced (readEffect m v s) := by
  unfold readEffect
  split <;> rfl

theorem storedValue_untraced (m : Mnemonic) (s : State) : storedValue m (untraced s) = storedValue m s := by
  unfold storedValue
  split <;> rfl

theorem modify_untraced (op : Byte → Flags → Byte × Flags) (tg : Target) (base : Nat) (s : State) :
    modify op tg base (untraced s) = mapState untraced (modify op tg base s) := by
  cases tg with
  | acc => rfl
  | mem a => cases a <;> rfl

theorem branch_untraced (c : Bool) (d : Byte) (base : Nat) (s : State) :
    branch c d base (untraced s) = mapState untraced (branch c d base s) := by
  cases c <;> rfl

theorem finishForm_untraced {i : Instr} {f : State → State} {n : Nat} (h : FinishForm i f n) (s : State) :
    f (untraced s) = untraced (f s) := by
  cases h <;> rfl

/-- No instruction looks at the trace hook or its reports. -/
theorem exec_untraced (i : Instr) (s : State) : exec i (untraced s) = mapState untraced (exec i s) := by
  cases hasForm i with
  | reads h =>
    rw [exec_of_readForm h, exec_of_readForm h, readClass_eq, readClass_eq, untraced_unseen.readSource, readEffect_untraced]
    rfl
  | stores h =>
    rw [exec_of_storeForm h, exec_of_storeForm h, store_eq, store_eq, untraced_unseen.resolve, storedValue_untraced]
    rfl
  | modifies h => rw [exec_of_modifyForm h, exec_of_modifyForm h, modify_untraced]
  | branches h =>
    rw [exec_of_branchForm h, exec_of_branchForm h, branch_untraced]
    rfl
  | finishes h =>
    rw [exec_of_finishForm h, exec_of_finishForm h, finishForm_untraced h]
    rfl

theorem fetched_untraced (s : State) : fetched (untraced s) = untraced (fetched s) := by
  rw [fetched, fetched, trace_eq, trace_eq]
  rfl

theorem unknownOpcode_untraced (op : Byte) (pc : Word) (s : State) :
    unknownOpcode op pc (untraced s) = mapState untraced (unknownOpcode op pc s) := by
  unfold unknownOpcode
  rw [show (untraced s).config.policy = s.config.policy from rfl]
  cases s.config.policy <;> rfl

/-- A row's instruction, run from the state after the opcode (R120, R246). -/
def runForm (form : Form) (t : State) : StepResult :=
  match form with
  | .bare i => exec i t
  | .byte k => exec (k (fetch8 t).1) (fetch8 t).2
  | .word k => exec (k (fetch16 t).1) (fetch16 t).2

theorem dispatch_of_none {s : State} (h : lookup (busValue s.pc s) = none) :
    dispatch s = unknownOpcode (busValue s.pc s) s.pc (fetched s) := by
  simp only [dispatch, fetch8_fst, h]
  rfl

theorem dispatch_of_row {s : State} {row : Row} (h : lookup (busValue s.pc s) = some row) :
    dispatch s = runForm row.form (fetched s) := by
  simp only [dispatch, fetch8_fst, h]
  cases row.form <;> rfl

theorem runForm_untraced (form : Form) (t : State) : runForm form (untraced t) = mapState untraced (runForm form t) := by
  cases form with
  | bare i => exact exec_untraced i t
  | byte k => exact exec_untraced (k (fetch8 t).1) (fetch8 t).2
  | word k => exact exec_untraced (k (fetch16 t).1) (fetch16 t).2

theorem dispatch_untraced (s : State) : dispatch (untraced s) = mapState untraced (dispatch s) := by
  have hop : busValue (untraced s).pc (untraced s) = busValue s.pc s := rfl
  cases h : lookup (busValue s.pc s) with
  | none =>
    rw [dispatch_of_none h, dispatch_of_none (hop ▸ h), fetched_untraced]
    exact unknownOpcode_untraced ..
  | some row => rw [dispatch_of_row h, dispatch_of_row (hop ▸ h), fetched_untraced, runForm_untraced]

theorem boundary_untraced (s : State) : boundary (untraced s) = mapState untraced (boundary s) := by
  unfold boundary
  rw [show (untraced s).nmiLatch = s.nmiLatch from rfl, show (untraced s).flags = s.flags from rfl,
    show (untraced s).irqLine = s.irqLine from rfl, dispatch_untraced]
  split
  · rfl
  · split <;> rfl

theorem tick_untraced (s : State) : tick (untraced s) = mapState untraced (tick s) := by
  unfold tick
  rw [show (untraced s).phase = s.phase from rfl, show (untraced s).cyc = s.cyc from rfl, boundary_untraced]
  cases s.phase with
  | unreset => rfl
  | running =>
    dsimp only
    split <;> rfl

theorem hostCall_untraced (call : HostCall) (s : State) :
    hostCall call (untraced s) = mapState untraced (hostCall call s) := by
  cases call with
  | tick => exact tick_untraced s
  | reset automation => cases automation <;> rfl
  | _ => rfl

/-- Settles O56: the hook is looked at where the opcode is reported, and the report goes to the log alone. -/
theorem traceHookAltersNothing : Obligations.TraceHookAltersNothing := by
  intro s
  unfold step
  rw [show (untraced s).schedule = s.schedule from rfl]
  cases s.schedule with
  | nil => exact tick_untraced s
  | cons call later => exact hostCall_untraced call { s with schedule := later }

/-! The stored B and the countdown. -/

/-- Another stored B and another countdown. -/
def withBCyc (b : Bool) (n : BitVec 32) (s : State) : State := withB b { s with cyc := n }

theorem withBCyc_unseen (b : Bool) (n : BitVec 32) : UnseenByReads (withBCyc b n) :=
  ⟨fun _ => rfl, fun _ => rfl, fun _ _ => rfl, fun _ _ => rfl⟩

theorem readEffect_withBCyc (m : Mnemonic) (v : Byte) (b : Bool) (n : BitVec 32) (s : State) :
    readEffect m v (withBCyc b n s) = withBCyc b n (readEffect m v s) := by
  unfold readEffect
  split <;> rfl

theorem storedValue_withBCyc (m : Mnemonic) (b : Bool) (n : BitVec 32) (s : State) :
    storedValue m (withBCyc b n s) = storedValue m s := by
  unfold storedValue
  split <;> rfl

/-- A read-modify-write operation neither reads nor writes B. -/
theorem modifyOp_withB (m : Mnemonic) (v : Byte) (b : Bool) (f : Flags) :
    modifyOp m v { f with b := b } = ((modifyOp m v f).1, { (modifyOp m v f).2 with b := b }) := by
  unfold modifyOp
  split <;> rfl

/-- A branch tests none of B. -/
theorem branchForm_withB {i : Instr} {d : Byte} {cond : Flags → Bool} (h : BranchForm i d cond) (b : Bool) (f : Flags) :
    cond { f with b := b } = cond f := by
  cases h <;> rfl

theorem finishForm_withBCyc {i : Instr} {f : State → State} {k : Nat} (h : FinishForm i f k) (b : Bool) (n : BitVec 32)
    (s : State) : withB false ((f (withBCyc b n s)).charge k) = withB false ((f s).charge k) := by
  cases h <;> rfl

/-- Settles O57: no effect, operation, condition or stack operation looks at either, and each writes the countdown anew. -/
theorem storedBreakAndCountdownAreNotRead : Obligations.StoredBreakAndCountdownAreNotRead := by
  intro i s b n
  show mapState (withB false) (exec i (withBCyc b n s)) = _
  cases hasForm i with
  | reads h =>
    rw [exec_of_readForm h, exec_of_readForm h, readClass_eq, readClass_eq, (withBCyc_unseen b n).readSource,
      readEffect_withBCyc]
    rfl
  | stores h =>
    rw [exec_of_storeForm h, exec_of_storeForm h, store_eq, store_eq, (withBCyc_unseen b n).resolve, storedValue_withBCyc]
    rfl
  | @modifies m tg base h =>
    rw [exec_of_modifyForm h, exec_of_modifyForm h]
    cases tg with
    | acc =>
      rw [modify_acc, modify_acc, show (withBCyc b n s).flags = { s.flags with b := b } from rfl, modifyOp_withB]
      rfl
    | mem a =>
      simp only [modify_mem, (withBCyc_unseen b n).resolve, (withBCyc_unseen b n).value, (withBCyc_unseen b n).read]
      rw [show (withBCyc b n s).flags = { s.flags with b := b } from rfl, modifyOp_withB]
      rfl
  | branches h =>
    rw [exec_of_branchForm h, exec_of_branchForm h, branch_eq, branch_eq,
      show (withBCyc b n s).flags = { s.flags with b := b } from rfl, branchForm_withB h]
    split <;> rfl
  | finishes h =>
    rw [exec_of_finishForm h, exec_of_finishForm h, finish, finish, mapState, mapState, finishForm_withBCyc h]

/-! The D flag. -/

/-- Another D. -/
def withD (d : Bool) (s : State) : State := s.setFlags { s.flags with d := d }

theorem withD_unseen (d : Bool) : UnseenByReads (withD d) := ⟨fun _ => rfl, fun _ => rfl, fun _ _ => rfl, fun _ _ => rfl⟩

theorem readEffect_withD (m : Mnemonic) (v : Byte) (d : Bool) (s : State) :
    readEffect m v (withD d s) = withD d (readEffect m v s) := by
  unfold readEffect
  split <;> rfl

/-- Settles O19: neither reading an operand nor any effect looks at D. -/
theorem decimalFlagIsNeverConsulted : Obligations.DecimalFlagIsNeverConsulted := by
  intro m i src base s d h
  show exec i (withD d s) = mapState (withD d) (exec i s)
  rw [exec_of_readForm h, exec_of_readForm h, readClass_eq, readClass_eq, (withD_unseen d).readSource, readEffect_withD]
  rfl

end Sys2Proof.Machine
end

section
/-! PROOFS. Which instructions write which flag and register (R31-R34, R42, R44-R47). -/

namespace Sys2Proof.Machine

open Sys2Proof.Safety

/-! The writers of the flags. -/

/-- A value that stays what it was has no writer to name. -/
theorem kept {α : Type} {x : α} {p : Prop} : x ≠ x → p := fun h => absurd rfl h

/-- A mnemonic that takes the flags from `f` to `g` is a writer of each flag it changes (R42, R44-R47). -/
def FlagWrites (m : Mnemonic) (f g : Flags) : Prop :=
  (g.c ≠ f.c → m ∈ [.adc, .sbc, .cmp, .cpx, .cpy, .asl, .lsr, .rol, .ror, .clc, .sec, .plp, .rti]) ∧
    (g.i ≠ f.i → m ∈ [.sei, .cli, .brk, .plp, .rti]) ∧
    (g.d ≠ f.d → m ∈ [.sed, .cld, .plp, .rti]) ∧
    (g.b ≠ f.b → m = .brk ∧ g.b = true) ∧
    (g.v ≠ f.v → m ∈ [.adc, .sbc, .bit, .clv, .plp, .rti])

theorem flagWrites_refl (m : Mnemonic) (f : Flags) : FlagWrites m f f := ⟨kept, kept, kept, kept, kept⟩

/-- Z and N have no list. -/
theorem flagWrites_setZN (m : Mnemonic) (v : Byte) (f : Flags) : FlagWrites m f (setZN v f) := ⟨kept, kept, kept, kept, kept⟩

theorem readEffect_flagWrites (m : Mnemonic) (v : Byte) (s : State) : FlagWrites m s.flags (readEffect m v s).flags := by
  cases m with
  | lda | ldx | ldy | and | ora | eor => exact flagWrites_setZN ..
  | adc | sbc => exact ⟨fun _ => by decide, kept, kept, kept, fun _ => by decide⟩
  | cmp | cpx | cpy => exact ⟨fun _ => by decide, kept, kept, kept, kept⟩
  | bit => exact ⟨kept, kept, kept, kept, fun _ => by decide⟩
  | _ => exact flagWrites_refl ..

theorem modifyOp_flagWrites (m : Mnemonic) (v : Byte) (f : Flags) : FlagWrites m f (modifyOp m v f).2 := by
  cases m with
  | asl | lsr | rol | ror => exact ⟨fun _ => by decide, kept, kept, kept, kept⟩
  | inc | dec => exact flagWrites_setZN ..
  | _ => exact flagWrites_refl ..

theorem finishForm_flagWrites {i : Instr} {f : State → State} {n : Nat} (h : FinishForm i f n) (s : State) :
    FlagWrites i.mnemonic s.flags (f s).flags := by
  cases h with
  | clc | sec => exact ⟨fun _ => by decide, kept, kept, kept, kept⟩
  | cli | sei => exact ⟨kept, fun _ => by decide, kept, kept, kept⟩
  | cld | sed => exact ⟨kept, kept, fun _ => by decide, kept, kept⟩
  | clv => exact ⟨kept, kept, kept, kept, fun _ => by decide⟩
  | brk => exact ⟨kept, fun _ => by decide, kept, fun _ => ⟨rfl, rfl⟩, kept⟩
  | plp | rti => exact ⟨fun _ => by decide, fun _ => by decide, fun _ => by decide, kept, fun _ => by decide⟩
  | inx | iny | dex | dey | pla | tax | tay | txa | tya | tsx => exact flagWrites_setZN ..
  | jmpAbs | jmpInd | jsr | rts | pha | php | txs | nop => exact flagWrites_refl ..

/-- Settles O58, form by form. -/
theorem flagsHaveTheirWriters : Obligations.FlagsHaveTheirWriters := by
  intro i s t hexec
  show FlagWrites i.mnemonic s.flags t.flags
  cases hasForm i with
  | @reads m src base h =>
    obtain ⟨u, hu, _, _, _, hflags, _⟩ := exec_readForm h s
    cases hu.symm.trans hexec
    rw [mnemonic_of_readForm h, hflags]
    exact readEffect_flagWrites ..
  | stores h =>
    rw [exec_of_storeForm h, store_eq] at hexec
    cases hexec
    rw [State.charge_flags, memWrite_flags, resolve_st_flags]
    exact flagWrites_refl ..
  | @modifies m tg base h =>
    rw [exec_of_modifyForm h] at hexec
    rw [mnemonic_of_modifyForm h]
    cases tg with
    | acc =>
      cases hexec
      exact modifyOp_flagWrites ..
    | mem a =>
      rw [modify_mem] at hexec
      cases hexec
      exact modifyOp_flagWrites ..
  | branches h =>
    rw [exec_of_branchForm h, branch_eq] at hexec
    cases hexec
    split <;> exact flagWrites_refl ..
  | finishes h =>
    rw [exec_of_finishForm h] at hexec
    cases hexec
    exact finishForm_flagWrites h s

/-! The writers of the registers. -/

/-- A mnemonic with an operand that takes `s` to `t` is a writer of each register it changes (R31-R34). -/
def RegWrites (m : Mnemonic) (o : Operand) (s t : State) : Prop :=
  (t.a ≠ s.a → m ∈ [.lda, .adc, .sbc, .and, .ora, .eor, .pla, .txa, .tya] ∨ o = .acc) ∧
    (t.x ≠ s.x → m ∈ [.ldx, .tax, .tsx, .inx, .dex]) ∧
    (t.y ≠ s.y → m ∈ [.ldy, .tay, .iny, .dey]) ∧
    (t.sp ≠ s.sp → m ∈ [.pha, .php, .pla, .plp, .jsr, .rts, .brk, .rti, .txs])

theorem regWrites_of_sameRegs {m : Mnemonic} {o : Operand} {s t : State} (h : SameRegs s t) : RegWrites m o s t := by
  obtain ⟨ha, hx, hy, hsp⟩ := h
  exact ⟨fun hne => absurd ha hne, fun hne => absurd hx hne, fun hne => absurd hy hne, fun hne => absurd hsp hne⟩

theorem readEffect_regWrites (m : Mnemonic) (o : Operand) (v : Byte) (s : State) : RegWrites m o s (readEffect m v s) := by
  cases m with
  | lda | adc | sbc | and | ora | eor => exact ⟨fun _ => .inl (by decide), kept, kept, kept⟩
  | ldx => exact ⟨kept, fun _ => by decide, kept, kept⟩
  | ldy => exact ⟨kept, kept, fun _ => by decide, kept⟩
  | _ => exact ⟨kept, kept, kept, kept⟩

theorem finishForm_regWrites {i : Instr} {f : State → State} {n : Nat} (h : FinishForm i f n) (s : State) :
    RegWrites i.mnemonic i.operand s (f s) := by
  cases h with
  | txa | tya => exact ⟨fun _ => .inl (by decide), kept, kept, kept⟩
  | inx | dex | tax | tsx => exact ⟨kept, fun _ => by decide, kept, kept⟩
  | iny | dey | tay => exact ⟨kept, kept, fun _ => by decide, kept⟩
  | jsr w => exact ⟨kept, kept, kept, fun _ => (by decide : Mnemonic.jsr ∈ _)⟩
  | rts | pha | php | plp | brk | rti | txs => exact ⟨kept, kept, kept, fun _ => by decide⟩
  | pla => exact ⟨fun _ => .inl (by decide), kept, kept, fun _ => by decide⟩
  | jmpAbs | jmpInd | clc | cld | cli | clv | sec | sed | sei | nop => exact ⟨kept, kept, kept, kept⟩

/-- A read-modify-write whose target is A names A as its operand (R112). -/
theorem operand_of_modifyForm_acc {m : Mnemonic} {i : Instr} {base : Nat} (h : ModifyForm m i .acc base) :
    i.operand = .acc := by
  cases h <;> rfl

/-- Settles O59, form by form. -/
theorem registersHaveTheirWriters : Obligations.RegistersHaveTheirWriters := by
  intro i s t hexec
  show RegWrites i.mnemonic i.operand s t
  cases hasForm i with
  | @reads m src base h =>
    obtain ⟨u, hu, ha, hx, hy, _, _, hsp, _⟩ := exec_readForm h s
    cases hu.symm.trans hexec
    have heffect := readEffect_regWrites m i.operand (readSource src s).value s
    unfold RegWrites at heffect ⊢
    rwa [mnemonic_of_readForm h, ha, hx, hy, hsp.trans (readEffect_sp m (readSource src s).value s).symm]
  | @stores m a base h =>
    rw [exec_of_storeForm h, store_eq] at hexec
    cases hexec
    exact regWrites_of_sameRegs (by simp [SameRegs])
  | @modifies m tg base h =>
    rw [exec_of_modifyForm h] at hexec
    cases tg with
    | acc =>
      cases hexec
      exact ⟨fun _ => .inr (operand_of_modifyForm_acc h), kept, kept, kept⟩
    | mem a =>
      rw [modify_mem] at hexec
      cases hexec
      exact regWrites_of_sameRegs (by simp [SameRegs])
  | branches h =>
    rw [exec_of_branchForm h, branch_eq] at hexec
    cases hexec
    split <;> exact regWrites_of_sameRegs ⟨rfl, rfl, rfl, rfl⟩
  | finishes h =>
    rw [exec_of_finishForm h] at hexec
    cases hexec
    exact finishForm_regWrites h s

end Sys2Proof.Machine
end

section
/-! PROOFS. The addressing modes (R103-R111): each effective address as a number, the reads that give it, the page-cross bit. -/

namespace Sys2Proof.Machine

open Sys2Proof.Safety

theorem zeroPage_add_toNat (z index : Byte) : (zeroPage (z + index)).toNat = (z.toNat + index.toNat) % 256 := by
  rw [zeroPage_toNat, BitVec.toNat_add]

/-- Settles O6: a zero-page address is its byte, and the index is added to the byte. -/
theorem zeroPageWraps : Obligations.ZeroPageWraps := by
  intro z s
  exact ⟨⟨rfl, rfl⟩, ⟨zeroPage_toNat z, rfl, rfl⟩, ⟨zeroPage_add_toNat z s.x, rfl, rfl⟩, zeroPage_add_toNat z s.y, rfl, rfl⟩

/-- An indexed sum crosses exactly when its page is another than the base's. -/
theorem pageCrossed_add_iff (w : Word) (v : Byte) :
    pageCrossed w (w + v.setWidth 16) = true ↔ (w.toNat + v.toNat) % 65536 / 256 ≠ w.toNat / 256 := by
  rw [pageCrossed_iff, add_index_toNat]

/-- Settles O7: the sum is taken modulo 65536, and a cross is a change of the high byte. -/
theorem absoluteIndexedAddress : Obligations.AbsoluteIndexedAddress := by
  intro w s
  exact ⟨⟨rfl, rfl, rfl⟩, add_index_toNat w s.x, pageCrossed_add_iff w s.x, rfl, add_index_toNat w s.y,
    pageCrossed_add_iff w s.y, rfl⟩

/-- A pointer at `lo` in page 0 has its high byte at `hi`, the successor within the page. -/
theorem zeroPage_succ_eq {p : Byte} {lo hi : Word} (hlo : lo.toNat = p.toNat) (hhi : hi.toNat = (lo.toNat + 1) % 256) :
    zeroPage p = lo ∧ zeroPage (p + 1) = hi := by
  refine ⟨zeroPage_eq_of_toNat hlo, zeroPage_eq_of_toNat ?_⟩
  rw [hhi, hlo, BitVec.toNat_add]
  rfl

/-- Settles O8: the pointer is the byte z + X. -/
theorem indexedIndirectAddress : Obligations.IndexedIndirectAddress := by
  intro z s lo hi hlo hhi
  obtain ⟨hp, hp1⟩ := zeroPage_succ_eq (p := z + s.x) (hlo.trans (BitVec.toNat_add ..).symm) hhi
  refine ⟨⟨rfl, rfl⟩, ?_, ?_, rfl⟩
  · simp only [resolve, resolveIzx, hp, hp1, read16_fst, joinBytes_toNat]
  · simp only [resolve, resolveIzx, hp, hp1, read16_snd]

/-- Settles O9: the pointer is the byte z, and Y is added to the word read there. -/
theorem indirectIndexedAddress : Obligations.IndirectIndexedAddress := by
  intro z s lo hi base hlo hhi hbase
  obtain ⟨hp, hp1⟩ := zeroPage_succ_eq (p := z) hlo (hlo ▸ hhi)
  have hword : (joinBytes (busValue hi (afterRead lo s)) (busValue lo s)).toNat = base := by rw [joinBytes_toNat, hbase]
  refine ⟨?_, ?_, ?_⟩
  · simp only [resolve, resolveIzy, hp, hp1, read16_fst, add_index_toNat, hword]
  · simp only [resolve, resolveIzy, hp, hp1, read16_snd]
  · simp only [resolve, resolveIzy, hp, hp1, read16_fst, pageCrossed_add_iff, hword]

/-- The successor of `p` within its page (R110). -/
theorem pointerHigh_of_toNat {p hi : Word} (h : hi.toNat = p.toNat / 256 * 256 + (p.toNat + 1) % 256) :
    ((p &&& 0xFF00) ||| ((p + 1) &&& 0x00FF)) = hi := by
  rw [pointerHigh_eq]
  apply BitVec.eq_of_toNat_eq
  rw [joinBytes_toNat, hiByte_toNat, loByte_toNat, BitVec.toNat_add, h, show (1 : Word).toNat = 1 from rfl]
  omega

/-- Settles O10: a word's bytes joined low first, and the pointer's successor taken within its page. -/
theorem indirectStaysInPage : Obligations.IndirectStaysInPage := by
  intro p hi s hhi
  have hind : resolveInd p s = ⟨(read16 p hi s).1, false, (read16 p hi s).2⟩ := by
    simp only [resolveInd, pointerHigh_of_toNat hhi]
  refine ⟨⟨joinBytes_toNat .., rfl⟩, ?_, ?_, rfl, _, rfl, rfl, rfl⟩
  · rw [hind]
    exact joinBytes_toNat ..
  · rw [hind]
    rfl

/-- Settles O11: the displacement is sign-extended, and a cross is a change of the high byte. -/
theorem relativeTarget : Obligations.RelativeTarget := by
  intro d s
  exact ⟨add_displacement_toNat d s.pc, rfl, pageCrossed_iff s.pc _⟩

/-- Settles O13: what `readSource` does for each operand. -/
theorem operandIsReadOnce : Obligations.OperandIsReadOnce := by
  intro s
  constructor
  · intro v
    exact ⟨rfl, rfl, rfl⟩
  · intro a
    exact ⟨rfl, rfl, rfl, rfl⟩

end Sys2Proof.Machine
end

section
/-! PROOFS. The instructions that read their operand (R140-R142, R151-R155, R180-R184): `exec_readForm` gives the frame and the
cost, the flag laws the flags. -/

namespace Sys2Proof.Machine

open Sys2Proof.Safety

/-- Settles O12: the register and the flags are those of the three load effects. -/
theorem loadsTakeTheOperand : Obligations.LoadsTakeTheOperand := by
  refine ⟨fun i src base s h => ?_, fun i src base s h => ?_, fun i src base s h => ?_⟩ <;>
    obtain ⟨t, hexec, ha, hx, hy, hflags, hframe⟩ := exec_readForm h s <;>
    exact ⟨t, hexec, ha, hx, hy, hflags.trans (setZN_eq ..), hframe⟩

/-- Settles O15: the law of ADC's flags (`adcFlags_eq`). -/
theorem adcAddsWithCarry : Obligations.AdcAddsWithCarry := by
  intro i src base s h
  obtain ⟨t, hexec, ha, hx, hy, hflags, hframe⟩ := exec_readForm h s
  refine ⟨t, hexec, ha, hx, hy, ?_, hframe⟩
  rw [ha, hflags]
  exact adcFlags_eq ..

/-- Settles O16: the law of SBC's flags (`sbcFlags_eq`). -/
theorem sbcSubtractsWithBorrow : Obligations.SbcSubtractsWithBorrow := by
  intro i src base s h
  obtain ⟨t, hexec, ha, hx, hy, hflags, hframe⟩ := exec_readForm h s
  refine ⟨t, hexec, ha, hx, hy, ?_, hframe⟩
  rw [ha, hflags]
  exact sbcFlags_eq ..

/-- On integers, A − M − (1 − C) is A + ~M + C − 256 (R152). -/
theorem sbcDiff_eq_adcSum (a m : Byte) (c : Bool) : sbcDiff a m c = (adcSum a (~~~m) c : Int) - 256 := by
  have hm := m.isLt
  have hnot : (~~~m).toNat = 255 - m.toNat := BitVec.toNat_not
  simp only [sbcDiff, adcSum, hnot]
  omega

theorem sbcResult_eq_adcResult (a m : Byte) (c : Bool) : sbcResult a m c = adcResult a (~~~m) c := by
  apply BitVec.eq_of_toNat_eq
  rw [sbcResult, adcResult, BitVec.toNat_ofInt, BitVec.toNat_ofNat, sbcDiff_eq_adcSum]
  omega

/-- Settles O17: no borrow is a carry of the complemented sum, and the overflow formulas differ by the complement alone. -/
theorem sbcIsAdcOfComplement : Obligations.SbcIsAdcOfComplement := by
  intro a m f
  refine ⟨sbcResult_eq_adcResult a m f.c, ?_⟩
  have hcarry : decide (0 ≤ sbcDiff a m f.c) = decide (adcSum a (~~~m) f.c > 0xFF) := by
    rw [sbcDiff_eq_adcSum, decide_eq_decide]
    omega
  have hsigns : a ^^^ m = ~~~(a ^^^ ~~~m) := by
    rw [BitVec.not_xor_right, BitVec.not_not]
  simp only [sbcFlags, adcFlags, sbcResult_eq_adcResult, hcarry, hsigns]

/-- Subtracting what was added, with the carry-in complemented, gives A back (90_conflicts.md C2). -/
theorem sbcResult_adcResult (a m : Byte) (c : Bool) : sbcResult (adcResult a m c) m (!c) = a := by
  have ha := a.isLt
  have hr := sbcResult_toNat (adcResult a m c) m (!c)
  have hc : ((!c).toNat : Int) = 1 - c.toNat := by cases c <;> rfl
  rw [adcResult_toNat, hc] at hr
  apply BitVec.eq_of_toNat_eq
  omega

/-- Settles O18: the second instruction's A is the first's, with the operand taken off again. -/
theorem sbcUndoesAdc : Obligations.SbcUndoesAdc := by
  intro i src base j src' base' s t hadc hsbc hexec u hvalue
  obtain ⟨t', ht', ha, _⟩ := exec_readForm hadc s
  cases ht'.symm.trans hexec
  obtain ⟨w, hw, hwa, _⟩ := exec_readForm hsbc u
  refine ⟨w, hw, hwa.trans ?_⟩
  show sbcResult t.a (readSource src' u).value (!s.flags.c) = s.a
  rw [hvalue, ha]
  exact sbcResult_adcResult ..

/-- Settles O20: each bit of the result is the operation on the bits. -/
theorem logicIsBitwise : Obligations.LogicIsBitwise := by
  refine ⟨fun i src base s h => ?_, fun i src base s h => ?_, fun i src base s h => ?_⟩ <;>
    obtain ⟨t, hexec, ha, hx, hy, hflags, hframe⟩ := exec_readForm h s
  · exact ⟨t, hexec, fun k => ha ▸ BitVec.getLsbD_and, hx, hy, ha ▸ hflags.trans (setZN_eq ..), hframe⟩
  · exact ⟨t, hexec, fun k => ha ▸ BitVec.getLsbD_or, hx, hy, ha ▸ hflags.trans (setZN_eq ..), hframe⟩
  · exact ⟨t, hexec, fun k => ha ▸ BitVec.getLsbD_xor, hx, hy, ha ▸ hflags.trans (setZN_eq ..), hframe⟩

/-- A compare's register, by its mnemonic. -/
theorem readEffect_compare {m : Mnemonic} (h : m = .cmp ∨ m = .cpx ∨ m = .cpy) (v : Byte) (s : State) :
    readEffect m v s = s.setFlags (compareFlags (comparedRegister m s) v s.flags) := by
  obtain rfl | rfl | rfl := h <;> rfl

/-- Settles O21: the compare takes its mnemonic's register, and `compareFlags_eq` gives the flags. -/
theorem comparesAreUnsigned : Obligations.ComparesAreUnsigned := by
  intro m i src base s hm h
  obtain ⟨t, hexec, ha, hx, hy, hflags, hframe⟩ := exec_readForm h s
  rw [readEffect_compare hm] at ha hx hy hflags
  exact ⟨t, hexec, hflags.trans (compareFlags_eq ..), ha, hx, hy, hframe⟩

/-- Settles O22: the law of BIT's flags (`bitFlags_eq`). -/
theorem bitTestsTheOperand : Obligations.BitTestsTheOperand := by
  intro i src base s h
  obtain ⟨t, hexec, ha, hx, hy, hflags, hframe⟩ := exec_readForm h s
  exact ⟨t, hexec, hflags.trans (bitFlags_eq ..), ha, hx, hy, hframe⟩

end Sys2Proof.Machine
end

section
/-! PROOFS. The instructions that write memory at their operand's address (R143-R145, R160-R164, R170, R171), and the branches
(R190-R198). -/

namespace Sys2Proof.Machine

open Sys2Proof.Safety

/-- Forming an address touches nothing outside the core. -/
theorem sameOutside_resolve (a : Addr) (s : State) : SameOutside s (resolve a s).st := (busStep_resolve a s).outside

/-- Settles O14: one bus write after the resolver's reads, neither of which touches a register. -/
theorem storesWriteOneByte : Obligations.StoresWriteOneByte := by
  intro m i a base s h hwf
  let t := memWrite (resolve a s).ea (storedValue m s) (resolve a s).st
  have hstores : StoresByte s t (resolve a s).ea (storedValue m s) :=
    storesByte_memWrite hwf (by simp only [t, memWrite_mem, resolve_st_busMap, resolve_st_mem])
  exact ⟨_, (exec_of_storeForm h s).trans (store_eq ..), hstores,
    ⟨resolve_st_a .., resolve_st_x .., resolve_st_y .., resolve_st_sp ..⟩, resolve_st_flags .., resolve_st_pc ..,
    sameOutside_resolve a s, rfl, rfl⟩

/-- What a read-modify-write instruction does: its operation on the operand, and the rewriting of it (R160). -/
theorem exec_modifyForm {m : Mnemonic} {i : Instr} {tg : Target} {base : Nat} (h : ModifyForm m i tg base) {s : State}
    (hwf : s.mem.wf = true) :
    ∃ t, exec i s = .next t ∧ t.flags = (modifyOp m (targetValue tg s) s.flags).2 ∧
      Rewrites s t tg (modifyOp m (targetValue tg s) s.flags).1 base := by
  rw [exec_of_modifyForm h]
  exact modify_rewrites (modifyOp m) tg base s hwf

/-- Settles O23: both operations as arithmetic, with the old carry added by ROL alone. -/
theorem leftShiftsDouble : Obligations.LeftShiftsDouble := by
  intro m i tg base s hm h hwf
  obtain ⟨t, hexec, hflags, hrewrites⟩ := exec_modifyForm h hwf
  refine ⟨t, hexec, ?_⟩
  obtain rfl | rfl := hm
  · simp only [modifyOp, aslOp_eq] at hflags hrewrites
    exact ⟨hflags, hrewrites⟩
  · simp only [modifyOp, rolOp_eq] at hflags hrewrites
    exact ⟨hflags, hrewrites⟩

/-- Settles O24: both operations as arithmetic, with the old carry added by ROR alone. -/
theorem rightShiftsHalve : Obligations.RightShiftsHalve := by
  intro m i tg base s hm h hwf
  obtain ⟨t, hexec, hflags, hrewrites⟩ := exec_modifyForm h hwf
  refine ⟨t, hexec, ?_⟩
  obtain rfl | rfl := hm
  · simp only [modifyOp, lsrOp_eq] at hflags hrewrites
    exact ⟨hflags, hrewrites⟩
  · simp only [modifyOp, rorOp_eq] at hflags hrewrites
    exact ⟨hflags, hrewrites⟩

/-- Settles O25: both operations as addition modulo 256. -/
theorem incDecWrapInMemory : Obligations.IncDecWrapInMemory := by
  intro m i tg base s hm h hwf
  obtain ⟨t, hexec, hflags, hrewrites⟩ := exec_modifyForm h hwf
  refine ⟨t, hexec, ?_⟩
  obtain rfl | rfl := hm
  · simp only [modifyOp, incOp_eq] at hflags hrewrites
    exact ⟨hflags, hrewrites⟩
  · simp only [modifyOp, decOp_eq] at hflags hrewrites
    exact ⟨hflags, hrewrites⟩

/-- A taken branch costs 3 within the page of the next instruction and 4 outside it (R190). -/
theorem taken_cost (d : Byte) (s : State) :
    BitVec.ofNat 32 (2 + 1 + (resolveRel d s).crossed.toNat) =
      if (resolveRel d s).ea.toNat / 256 = s.pc.toNat / 256 then 3 else 4 := by
  have hcross : (resolveRel d s).crossed = true ↔ (resolveRel d s).ea.toNat / 256 ≠ s.pc.toNat / 256 := pageCrossed_iff ..
  cases hc : (resolveRel d s).crossed with
  | true => rw [if_neg (hcross.1 hc)]; rfl
  | false => rw [if_pos (not_not.1 fun hne => Bool.false_ne_true (hc.symm.trans (hcross.2 hne)))]; rfl

/-- Settles O29: the two branches of `branch`. -/
theorem branchesFollowTheirFlag : Obligations.BranchesFollowTheirFlag := by
  intro i d cond s h
  refine ⟨_, (exec_of_branchForm h s).trans (branch_eq ..), ?_⟩
  cases cond s.flags with
  | true =>
    exact ⟨⟨rfl, rfl, rfl, rfl⟩, rfl, fun _ => rfl, sameOutside_refl s, rfl,
      fun _ => ⟨add_displacement_toNat d s.pc, taken_cost d s⟩, fun hfalse => Bool.noConfusion hfalse⟩
  | false =>
    exact ⟨⟨rfl, rfl, rfl, rfl⟩, rfl, fun _ => rfl, sameOutside_refl s, rfl, fun htrue => Bool.noConfusion htrue,
      fun _ => ⟨rfl, rfl⟩⟩

end Sys2Proof.Machine
end

section
/-! PROOFS. The instructions without an operand of data (R172-R175, R200-R206, R220-R233): registers and flags, jumps, and the
stack (R34, R76-R78). -/

namespace Sys2Proof.Machine

open Sys2Proof.Safety

/-! Registers and flags. -/

/-- A change of registers alone that leaves PC, at cost 2, has the frame of a register instruction. -/
theorem impliedFrame_charge {s u : State} (h : OnlyRegisters s u) (hpc : u.pc = s.pc) : ImpliedFrame s (u.charge 2) :=
  ⟨hpc, fun a => congrArg (fun m : Memory => m.read a) h.mem, h.outside, h.history, rfl⟩

/-- A copy of the state with other registers and flags. -/
theorem impliedFrame_registers (s : State) (sp a x y : Byte) (f : Flags) :
    ImpliedFrame s ({ s with sp := sp, a := a, x := x, y := y, flags := f }.charge 2) :=
  impliedFrame_charge ⟨sameOutside_refl s, rfl, rfl⟩ rfl

theorem add_one_toNat (v : Byte) : (v + 1).toNat = (v.toNat + 1) % 256 := by
  rw [BitVec.toNat_add]
  rfl

theorem sub_one_toNat (v : Byte) : (v - 1).toNat = (v.toNat + 255) % 256 := by
  rw [BitVec.toNat_sub, show (1 : Byte).toNat = 1 from rfl, Nat.add_comm]

/-- Settles O26: one register and Z and N change. -/
theorem incDecWrapInRegisters : Obligations.IncDecWrapInRegisters := by
  intro s
  refine ⟨⟨_, rfl, add_one_toNat s.x, ?_⟩, ⟨_, rfl, add_one_toNat s.y, ?_⟩, ⟨_, rfl, sub_one_toNat s.x, ?_⟩,
    ⟨_, rfl, sub_one_toNat s.y, ?_⟩⟩ <;>
    exact ⟨rfl, rfl, rfl, setZN_eq .., impliedFrame_registers ..⟩

/-- Settles O27: one register changes, and Z and N but for TXS. -/
theorem transfersCopyRegisters : Obligations.TransfersCopyRegisters := by
  intro s
  refine ⟨?_, ?_, ?_, ?_, ?_, _, rfl, rfl, rfl, rfl, rfl, rfl, impliedFrame_registers ..⟩ <;>
    exact ⟨_, rfl, rfl, rfl, rfl, rfl, setZN_eq .., impliedFrame_registers ..⟩

/-- Settles O28: at most one flag changes. -/
theorem flagInstructionsWriteOneFlag : Obligations.FlagInstructionsWriteOneFlag := by
  intro s
  refine ⟨?_, ?_, ?_, ?_, ?_, ?_, ?_, ?_⟩ <;>
    exact ⟨_, rfl, rfl, ⟨rfl, rfl, rfl, rfl⟩, impliedFrame_registers ..⟩

/-- Settles O30: only PC changes, and the history by the two pointer reads. -/
theorem jumpsRedirectThePc : Obligations.JumpsRedirectThePc := by
  intro w s
  exact ⟨⟨_, rfl, rfl, ⟨rfl, rfl, rfl, rfl⟩, rfl, fun _ => rfl, sameOutside_refl s, rfl, rfl⟩,
    _, rfl, rfl, ⟨rfl, rfl, rfl, rfl⟩, rfl, fun _ => rfl, (busStep_resolveInd w s).outside, rfl, rfl⟩

/-! The stack. -/

/-- A push stores one byte where SP points (R76). -/
theorem storesByte_push {s : State} (hwf : s.mem.wf = true) (v : Byte) : StoresByte s (push v s) (stackAddr s.sp) v :=
  storesByte_memWrite hwf rfl

/-- Settles O34: a stack address is 256 + SP, and SP is a byte. -/
theorem stackStaysInPageOne : Obligations.StackStaysInPageOne := by
  intro v s
  exact ⟨stackAddr_toNat s.sp, fun hwf => storesByte_push hwf v, sub_one_toNat s.sp, rfl, add_one_toNat s.sp, rfl, rfl, rfl⟩

/-- Settles O35: each is one push. -/
theorem pushInstructionsStoreOneByte : Obligations.PushInstructionsStoreOneByte := by
  intro s hwf
  exact ⟨⟨_, rfl, storesByte_push hwf s.a, rfl, rfl, rfl, rfl, rfl, rfl, (busStep_push s.a s).outside, rfl, rfl⟩,
    _, rfl, storesByte_push hwf (pack true s.flags), rfl, rfl, rfl, rfl, rfl, rfl,
    (busStep_push (pack true s.flags) s).outside, rfl, rfl⟩

/-- Settles O36: each is one pull. -/
theorem pullInstructionsLoadOneByte : Obligations.PullInstructionsLoadOneByte := by
  intro s
  exact ⟨⟨_, rfl, rfl, rfl, rfl, rfl, rfl, setZN_eq .., fun _ => rfl, (busStep_pull s).outside, rfl, rfl⟩,
    _, rfl, rfl, rfl, rfl, rfl, rfl, rfl, fun _ => rfl, (busStep_pull s).outside, rfl, rfl⟩

/-- Two stack writes, as JSR makes them: the later one at the lower address (R201). -/
theorem push_push_mem {s : State} (hwf : s.mem.wf = true) (u v : Byte) :
    (kindAt s.busMap (stackAddr s.sp).toNat = .ram → (push v (push u s)).mem.read (stackAddr s.sp).toNat = u) ∧
      (kindAt s.busMap (stackAddr (s.sp - 1)).toNat = .ram →
        (push v (push u s)).mem.read (stackAddr (s.sp - 1)).toNat = v) ∧
      ∀ a, (a = (stackAddr s.sp).toNat ∨ a = (stackAddr (s.sp - 1)).toNat → kindAt s.busMap a ≠ .ram) →
        (push v (push u s)).mem.read a = s.mem.read a := by
  have hne : s.sp ≠ s.sp - 1 := by bv_omega
  simp only [push_push_eq, State.setSp_mem]
  refine ⟨fun hram => ?_, fun hram => ?_, fun a hram => ?_⟩
  · rw [memWrite_read_other (stackAddr_toNat_ne hne), memWrite_read_same hram hwf]
  · exact memWrite_read_same hram (memWrite_wf hwf)
  · exact (memWrite_read_of_not_ram (s := memWrite _ _ s) fun e => hram (.inr e)).trans
      (memWrite_read_of_not_ram fun e => hram (.inl e))

/-- What JSR leaves (R201). -/
theorem exec_jsr (w : Word) (s : State) :
    exec (.jsr w) s = .next (((push (loByte (s.pc - 1)) (push (hiByte (s.pc - 1)) s)).setPc w).charge 6) := rfl

/-- Settles O31: two pushes below one another, the later one at the lower address. -/
theorem jsrPushesTheReturnAddress : Obligations.JsrPushesTheReturnAddress := by
  intro w s hwf
  obtain ⟨hhigh, hlow, hother⟩ := push_push_mem hwf (hiByte (s.pc - 1)) (loByte (s.pc - 1))
  have hsp : s.sp - 1 - 1 = s.sp - 2 := by bv_omega
  exact ⟨_, exec_jsr w s, rfl, hsp, rfl, rfl, rfl, rfl, (exec_busStep (exec_jsr w s)).outside, rfl, hhigh, hlow, hother, rfl⟩

/-- What RTS leaves (R202). -/
theorem exec_rts (s : State) :
    exec .rts s =
      let frame := read16 (stackAddr (s.sp + 1)) (stackAddr (s.sp + 2)) s
      .next (((frame.2.setSp (s.sp + 2)).setPc (frame.1 + 1)).charge 6) := by
  show finish 6 ((pull (pull s).2).2.setPc (joinBytes (pull (pull s).2).1 (pull s).1 + 1)) = _
  rw [pull_pull_eq]
  rfl

/-- Settles O32: two pulls above one another. -/
theorem rtsReturnsPastTheCall : Obligations.RtsReturnsPastTheCall := by
  intro s
  exact ⟨_, exec_rts s, rfl, rfl, rfl, rfl, rfl, rfl, fun _ => rfl, sameOutside_refl s, rfl, rfl⟩

/-- A RAM address is no device's. -/
theorem not_device_of_ram {k : RegionKind} (h : k = .ram) : k ≠ .device := by
  rw [h]
  decide

/-- RTS on a stack that no device answers takes PC from the bytes of memory there (R202). -/
theorem rts_of_plain {u : State} (hlow : kindAt u.busMap (stackAddr (u.sp + 1)).toNat ≠ .device)
    (hhigh : kindAt u.busMap (stackAddr (u.sp + 2)).toNat ≠ .device) :
    ∃ t, exec .rts u = .next t ∧ t.sp = u.sp + 2 ∧
      t.pc = joinBytes (u.mem.read (stackAddr (u.sp + 2)).toNat) (u.mem.read (stackAddr (u.sp + 1)).toNat) + 1 :=
  ⟨_, exec_rts u, rfl, congrArg (· + 1) (read16_fst_of_plain hlow hhigh)⟩

/-- Settles O33: RTS reads back, in the other order, what JSR wrote. -/
theorem rtsUndoesJsr : Obligations.RtsUndoesJsr := by
  intro w here s t hwf hhigh hlow hexec
  obtain ⟨t', ht', _, hsp, _, _, _, _, houtside, _, hreadHigh, hreadLow, _⟩ := jsrPushesTheReturnAddress w s hwf
  cases ht'.symm.trans hexec
  obtain ⟨_, _, _, hbusMap, _⟩ := houtside
  have hsp1 : (t.setPc here).sp + 1 = s.sp - 1 := by
    rw [State.setPc_sp, hsp]
    bv_omega
  have hsp2 : (t.setPc here).sp + 2 = s.sp := by
    rw [State.setPc_sp, hsp]
    bv_omega
  obtain ⟨u, hu, husp, hpc⟩ := rts_of_plain (u := t.setPc here)
    (by rw [hsp1, State.setPc_busMap, hbusMap]; exact not_device_of_ram hlow)
    (by rw [hsp2, State.setPc_busMap, hbusMap]; exact not_device_of_ram hhigh)
  refine ⟨u, hu, ?_, husp.trans hsp2⟩
  rw [hpc, hsp1, hsp2, State.setPc_mem, hreadHigh hhigh, hreadLow hlow, joinBytes_hi_lo, BitVec.sub_add_cancel]

end Sys2Proof.Machine
end

section
/-! PROOFS. The packed status and the interrupts (R39-R41, R215, R216, R243-R245, R250, R251). -/

namespace Sys2Proof.Machine

open Sys2Proof.Safety

/-- A flag's bit of a byte, and no other. -/
theorem flagBit_getLsbD (b : Bool) {k : Nat} (hk : k < 8) {j : Nat} (hj : j < 8) :
    (flagBit b k).getLsbD j = (b && k == j) := by
  revert hj j hk k
  decide +revert

/-- Each bit of the packed status (R39, R40). -/
theorem pack_getLsbD (b4 : Bool) (f : Flags) {j : Nat} (hj : j < 8) :
    (pack b4 f).getLsbD j =
      ((f.n && 7 == j) || (f.v && 6 == j) || 5 == j || (b4 && 4 == j) || (f.d && 3 == j) || (f.i && 2 == j) ||
        (f.z && 1 == j) || (f.c && 0 == j)) := by
  simp only [pack, BitVec.getLsbD_or, flagBit_getLsbD _ _ hj, Nat.reduceLT, Bool.true_and]

/-- Unpacking what was packed restores the six flags whatever bit 4 was (R41). -/
theorem unpack_pack (b4 : Bool) (f g : Flags) : unpack (pack b4 f) g = { f with b := g.b } := by
  simp only [unpack, pack_getLsbD, Nat.reduceLT, Nat.reduceBEq, Bool.and_false, Bool.and_true, Bool.false_or, Bool.or_false]

/-- The packed status as a sum of its bits (R39). -/
theorem pack_toNat (b4 : Bool) (f : Flags) :
    (pack b4 f).toNat =
      128 * f.n.toNat + 64 * f.v.toNat + 32 + 16 * b4.toNat + 8 * f.d.toNat + 4 * f.i.toNat + 2 * f.z.toNat + f.c.toNat := by
  have hbits : ∀ c z i d v n b4 : Bool, (pack b4 ⟨c, z, i, d, false, v, n⟩).toNat =
      128 * n.toNat + 64 * v.toNat + 32 + 16 * b4.toNat + 8 * d.toNat + 4 * i.toNat + 2 * z.toNat + c.toNat := by
    decide
  exact (congrArg BitVec.toNat (pack_withB b4 false f).symm).trans (hbits ..)

/-- Settles O37: the packed byte bit by bit and as a sum. -/
theorem packLayoutAndUnpack : Obligations.PackLayoutAndUnpack := by
  intro b4 f g p
  exact ⟨pack_toNat b4 f, rfl, unpack_pack b4 f g⟩

/-- The cost is no part of an interrupt entry. -/
theorem interruptEntry_charge {b4 : Bool} {vector : Word} {s t : State} (h : InterruptEntry b4 vector s t) (n : Nat) :
    InterruptEntry b4 vector s (t.charge n) := h

/-- Another NMI latch and another schedule: what differs between a boundary and the service it runs (R243, R264). -/
def withHost (latched : Bool) (calls : List HostCall) (s : State) : State :=
  { s with nmiLatch := latched, schedule := calls }

theorem stacked_withHost (b4 latched : Bool) (calls : List HostCall) (s : State) :
    stacked b4 (withHost latched calls s) = withHost latched calls (stacked b4 s) := rfl

theorem afterRead_withHost (a : Word) (latched : Bool) (calls : List HostCall) (s : State) :
    afterRead a (withHost latched calls s) = withHost latched calls (afterRead a s) := rfl

theorem busValue_withHost (a : Word) (latched : Bool) (calls : List HostCall) (s : State) :
    busValue a (withHost latched calls s) = busValue a s := rfl

/-- An interrupt entry looks neither at the latch nor at the host's schedule. -/
theorem interruptEntry_of_withHost {b4 latched : Bool} {calls : List HostCall} {vector : Word} {s t : State}
    (h : InterruptEntry b4 vector (withHost latched calls s) t) : InterruptEntry b4 vector s t := by
  unfold InterruptEntry at h ⊢
  simp only [stacked_withHost, afterRead_withHost, busValue_withHost] at h
  exact h

/-- Settles O38: the interrupt entry from the state whose PC is past the padding byte. -/
theorem brkEntersThroughTheIrqVector : Obligations.BrkEntersThroughTheIrqVector := by
  intro s hwf
  have hexec : exec .brk s = .next ((enterInterrupt true irqVector (s.setPc (s.pc + 1))).charge 7) := rfl
  have hentry := enterInterrupt_entry (b4 := true) (vector := irqVector) (s := s.setPc (s.pc + 1)) hwf (by decide) (by decide)
  exact ⟨_, hexec, interruptEntry_charge hentry 7, (exec_busStep hexec).outside, rfl⟩

/-- What RTI leaves (R216). -/
theorem exec_rti (s : State) :
    exec .rti s =
      let frame := read16 (stackAddr (s.sp + 2)) (stackAddr (s.sp + 3)) (afterRead (stackAddr (s.sp + 1)) s)
      .next ({ frame.2 with
        pc := frame.1
        sp := s.sp + 3
        flags := unpack (busValue (stackAddr (s.sp + 1)) s) s.flags }.charge 6) := by
  show finish 6 (returnFromInterrupt s) = _
  rw [returnFromInterrupt_flat]
  rfl

/-- Settles O39: three pulls above one another. -/
theorem rtiRestoresStatusAndPc : Obligations.RtiRestoresStatusAndPc := by
  intro s
  exact ⟨_, exec_rti s, rfl, rfl, rfl, rfl, rfl, rfl, fun _ => rfl, sameOutside_refl s, rfl, rfl⟩

/-- RTI on a stack that no device answers takes the status and PC from the bytes of memory there (R216). -/
theorem rti_of_plain {u : State} (hplain : ∀ k : Byte, kindAt u.busMap (stackAddr k).toNat ≠ .device) :
    ∃ t, exec .rti u = .next t ∧ t.sp = u.sp + 3 ∧ t.flags = unpack (u.mem.read (stackAddr (u.sp + 1)).toNat) u.flags ∧
      t.pc = joinBytes (u.mem.read (stackAddr (u.sp + 3)).toNat) (u.mem.read (stackAddr (u.sp + 2)).toNat) := by
  exact ⟨_, exec_rti u, rfl, congrArg (unpack · u.flags) (busValue_of_plain (hplain _)),
    read16_fst_of_plain (s := afterRead _ u) (hplain _) (hplain _)⟩

/-- Settles O40: RTI reads back, in the other order, what the entry of BRK wrote. -/
theorem rtiUndoesBrk : Obligations.RtiUndoesBrk := by
  intro here s t hwf hram hexec
  obtain ⟨t', ht', hentry, houtside, _⟩ := brkEntersThroughTheIrqVector s hwf
  cases ht'.symm.trans hexec
  obtain ⟨_, _, hsp, _, _, _, hflags, hhigh, hlow, hstatus, _⟩ := hentry
  obtain ⟨_, _, _, hbusMap, _⟩ := houtside
  rw [State.setPc_sp] at hsp hhigh hlow hstatus
  have hsp1 : (t.setPc here).sp + 1 = s.sp - 2 := by
    rw [State.setPc_sp, hsp]
    bv_omega
  have hsp2 : (t.setPc here).sp + 2 = s.sp - 1 := by
    rw [State.setPc_sp, hsp]
    bv_omega
  have hsp3 : (t.setPc here).sp + 3 = s.sp := by
    rw [State.setPc_sp, hsp]
    bv_omega
  obtain ⟨u, hu, husp, huflags, hpc⟩ := rti_of_plain (u := t.setPc here) fun k => by
    rw [State.setPc_busMap, hbusMap]
    exact not_device_of_ram (hram k)
  refine ⟨u, hu, ?_, ?_, husp.trans hsp3⟩
  · rw [huflags, hsp1, State.setPc_mem, hstatus (hram _), unpack_pack, State.setPc_flags, State.setPc_flags, hflags]
  · rw [hpc, hsp2, hsp3, State.setPc_mem, hhigh (hram _), hlow (hram _), joinBytes_hi_lo, State.setPc_pc]

/-- A step at a boundary is the boundary sequence of the state after the call (R240, R241). -/
theorem step_of_atBoundary {s : State} (h : AtBoundary s) : step s = boundary (afterCall s) := by
  obtain ⟨hticking, hcyc⟩ := h
  rw [step_of_ticking hticking, if_pos hcyc]

/-- Settles O41: an NMI latched at the boundary is serviced whatever else is the case. -/
theorem nmiIsServicedFirst : Obligations.NmiIsServicedFirst := by
  intro s hboundary hnmi hwf
  let u := withHost false s.schedule.tail s
  have hservice : step s = .next ((enterInterrupt false nmiVector u).charge 7) := by
    rw [step_of_atBoundary hboundary, boundary, afterCall_nmiLatch, hnmi, if_pos rfl]
    rfl
  have hentry : InterruptEntry false nmiVector s ((enterInterrupt false nmiVector u).charge 7) :=
    interruptEntry_of_withHost (interruptEntry_charge (enterInterrupt_entry (s := u) hwf (by decide) (by decide)) 7)
  have hbus : BusStep u ((enterInterrupt false nmiVector u).charge 7) :=
    (busStep_enterInterrupt false nmiVector u).trans (busStep_charge _ 7)
  exact ⟨_, hservice, hentry, hbus.sameLines.1, hbus.outside, rfl⟩

/-- Settles O42: with no NMI latched, the unmasked line is the next choice. -/
theorem irqIsServicedWhenUnmasked : Obligations.IrqIsServicedWhenUnmasked := by
  intro s hboundary hnmi hmask hline hwf
  let u := withHost s.nmiLatch s.schedule.tail s
  have hservice : step s = .next ((enterInterrupt false irqVector u).charge 7) := by
    rw [step_of_atBoundary hboundary, boundary, afterCall_nmiLatch, hnmi, afterCall_flags, hmask, afterCall_irqLine, hline]
    rfl
  have hentry : InterruptEntry false irqVector s ((enterInterrupt false irqVector u).charge 7) :=
    interruptEntry_of_withHost (interruptEntry_charge (enterInterrupt_entry (s := u) hwf (by decide) (by decide)) 7)
  have hbus : BusStep u ((enterInterrupt false irqVector u).charge 7) :=
    (busStep_enterInterrupt false irqVector u).trans (busStep_charge _ 7)
  exact ⟨_, hservice, hentry, hbus.outside, hbus.sameLines.2.trans hline, rfl⟩

end Sys2Proof.Machine
end

section
/-! PROOFS. The engine (R240, R241, R246, R252, R253, R256): the countdown over many ticks, and the dispatch of an opcode with
and without a table entry. -/

namespace Sys2Proof.Machine

open Sys2Proof.Safety

/-! Many steps. -/

theorem steps_of_step {s t : State} (h : step s = .next t) (k : Nat) : steps (k + 1) s = steps k t := by
  simp only [steps, h]

/-- One more step at the end. -/
theorem steps_succ {k : Nat} : ∀ {s u : State}, steps k s = .next u → steps (k + 1) s = step u := by
  induction k with
  | zero =>
    intro s u h
    cases h
    cases hstep : step s <;> simp only [steps, hstep]
  | succ k ih =>
    intro s u h
    cases hstep : step s with
    | next t =>
      rw [steps_of_step hstep] at h ⊢
      exact ih h
    | fault r => simp [steps, hstep] at h
    | refused r => simp [steps, hstep] at h

/-- With nothing scheduled, a running core counts down to 0 (R240). -/
theorem steps_countdown (n : Nat) : ∀ s : State, s.phase = .running → s.schedule = [] → s.cyc.toNat = n →
    steps n s = .next { s with cyc := 0 } := by
  induction n with
  | zero =>
    intro s _ _ hn
    rw [← BitVec.eq_of_toNat_eq (x := s.cyc) (y := 0) hn]
    rfl
  | succ n ih =>
    intro s hphase hschedule hn
    have hne : s.cyc ≠ 0 := fun h => by simp [h] at hn
    have hstep : step s = .next { s with cyc := s.cyc - 1 } := by
      rw [step_of_ticking ⟨hphase, .inl hschedule⟩, if_neg hne, afterCall_of_nil hschedule]
    have hpred : (s.cyc - 1).toNat = n := by bv_omega
    exact (steps_of_step hstep n).trans (ih { s with cyc := s.cyc - 1 } hphase hschedule hpred)

/-- Settles O44: each countdown tick takes one off cyc. -/
theorem boundaryComesAfterTheCost : Obligations.BoundaryComesAfterTheCost := fun s hphase hschedule =>
  steps_countdown s.cyc.toNat s hphase hschedule rfl

/-- The step after an instruction's countdown is the boundary sequence (R241). -/
theorem steps_past_countdown {t : State} (hphase : t.phase = .running) (hschedule : t.schedule = []) :
    steps (t.cyc.toNat + 1) t = boundary { t with cyc := 0 } := by
  have hboundary : AtBoundary { t with cyc := 0 } := ⟨⟨hphase, .inl hschedule⟩, rfl⟩
  rw [steps_succ (steps_countdown _ t hphase hschedule rfl), step_of_atBoundary hboundary]
  exact congrArg boundary (afterCall_of_nil hschedule)

/-- Settles O60: no instruction writes the lines, so the I it leaves is the one the next boundary sees. -/
theorem interruptMaskActsAtTheNextBoundary : Obligations.InterruptMaskActsAtTheNextBoundary := by
  intro i s _ hphase hschedule hnmi hirq
  obtain ⟨t, hexec⟩ := exec_next i s
  obtain ⟨hnmi', hirq', _, _, _, hphase', hschedule', _⟩ := (exec_busStep hexec).outside
  refine ⟨t, hexec, ?_, ?_, ?_⟩
  · rintro rfl
    cases hexec
    rfl
  · rintro rfl
    cases hexec
    rfl
  · rw [steps_past_countdown (hphase'.trans hphase) (hschedule'.trans hschedule)]
    simp only [boundary, hnmi'.trans hnmi, hirq'.trans hirq]
    cases t.flags.i <;> rfl

/-! The dispatch. -/

/-- A step at a dispatch is the dispatch of the state after the call (R241). -/
theorem step_of_atDispatch {s : State} (h : AtDispatch s) : step s = dispatch (afterCall s) := by
  obtain ⟨hboundary, hnmi, hmask⟩ := h
  rw [step_of_atBoundary hboundary]
  obtain ⟨hset, _⟩ | ⟨_, hclear, hline, _⟩ | ⟨_, _, hdispatch⟩ := boundary_cases (afterCall s)
  · exact absurd (hnmi.symm.trans hset) Bool.false_ne_true
  · obtain hi | hl := hmask
    · exact absurd (hclear.symm.trans hi) Bool.false_ne_true
    · exact absurd (hl.symm.trans hline) Bool.false_ne_true
  · exact hdispatch

/-- The state in which an opcode is looked up: one read, PC past it, the report made (R246, R256). -/
theorem fetched_eq (s : State) :
    fetched s = { afterRead s.pc s with pc := s.pc + 1, traceLog := report s (busValue s.pc s) ++ s.traceLog } := by
  rw [fetched, trace_eq]
  rfl

/-- A dispatch of a byte without a table entry meets the unknown opcode of the policy (R246, R252, R253). -/
theorem step_of_unassigned {s : State} (hat : AtDispatch s) (hbyte : busValue s.pc s ∈ unassignedBytes) :
    step s = unknownOpcode (busValue s.pc s) s.pc (fetched (afterCall s)) :=
  (step_of_atDispatch hat).trans (dispatch_of_none (s := afterCall s) ((lookup_eq_none_iff _).2 hbyte))

/-- Settles O46: the fault holds the state after the fetch with PC put back. -/
theorem strictUnknownOpcodeFaults : Obligations.StrictUnknownOpcodeFaults := by
  intro s hat hpolicy hbyte
  rw [step_of_unassigned hat hbyte, unknownOpcode, fetched_config, afterCall_config, hpolicy, fetched_eq]
  rfl

/-- Settles O47: the no-op's report and cost on the state after the fetch. -/
theorem permissiveUnknownOpcodeIsANop : Obligations.PermissiveUnknownOpcodeIsANop := by
  intro s hat hpolicy hbyte
  rw [step_of_unassigned hat hbyte, unknownOpcode, fetched_config, afterCall_config, hpolicy, fetched_eq]
  rfl

theorem codeAt_three (s : State) :
    codeAt s 3 = [s.mem.read s.pc.toNat, s.mem.read (s.pc + 1).toNat, s.mem.read (s.pc + 2).toNat] := by
  simp [codeAt]

/-- Fetching the opcode from memory (R100, R246). -/
theorem fetched_afterCall {s : State} (h : kindAt s.busMap s.pc.toNat ≠ .device) :
    fetched (afterCall s) = afterFetch s (s.mem.read s.pc.toNat) [] := by
  have hplain : kindAt (afterCall s).busMap (afterCall s).pc.toNat ≠ .device := h
  rw [fetched_eq, afterRead_of_plain hplain, busValue_of_plain hplain]
  rfl

/-- Fetching one operand byte from memory after the opcode. -/
theorem fetch8_afterFetch {s : State} (op : Byte) (h : kindAt s.busMap (s.pc + 1).toNat ≠ .device) :
    fetch8 (afterFetch s op []) = (s.mem.read (s.pc + 1).toNat, afterFetch s op [s.mem.read (s.pc + 1).toNat]) := by
  have hpc : s.pc + 1 + 1 = s.pc + 2 := by bv_omega
  have hplain : kindAt (afterFetch s op []).busMap (afterFetch s op []).pc.toNat ≠ .device := h
  rw [fetch8_of_plain hplain]
  refine Prod.ext rfl ?_
  show { afterFetch s op [s.mem.read (s.pc + 1).toNat] with pc := s.pc + 1 + 1 } = _
  rw [hpc]
  rfl

/-- Fetching two operand bytes from memory after the opcode. -/
theorem fetch16_afterFetch {s : State} (op : Byte) (h1 : kindAt s.busMap (s.pc + 1).toNat ≠ .device)
    (h2 : kindAt s.busMap (s.pc + 2).toNat ≠ .device) :
    fetch16 (afterFetch s op []) =
      (joinBytes (s.mem.read (s.pc + 2).toNat) (s.mem.read (s.pc + 1).toNat),
        afterFetch s op [s.mem.read (s.pc + 1).toNat, s.mem.read (s.pc + 2).toNat]) := by
  have hpc : s.pc + 1 + 1 = s.pc + 2 := by bv_omega
  have hpc3 : s.pc + 1 + 2 = s.pc + 3 := by bv_omega
  have hplain1 : kindAt (afterFetch s op []).busMap (afterFetch s op []).pc.toNat ≠ .device := h1
  have hplain2 : kindAt (afterFetch s op []).busMap ((afterFetch s op []).pc + 1).toNat ≠ .device := by
    rw [← hpc] at h2
    exact h2
  rw [fetch16_of_plain hplain1 hplain2, show (afterFetch s op []).pc = s.pc + 1 from rfl, hpc, hpc3]
  refine Prod.ext rfl ?_
  simp only [afterFetch, fetchEvents, hpc]
  rfl

/-- Settles O45: the fetched bytes are those of the code, and they decode to the row's instruction. -/
theorem stepRunsTheDecodedInstruction : Obligations.StepRunsTheDecodedInstruction := by
  intro s i rest hat hdecode _ hreadable
  have hplain0 : kindAt s.busMap s.pc.toNat ≠ .device := by
    have h := hreadable 0 (by simp [Instr.fetchedBytes])
    rwa [BitVec.add_zero] at h
  rw [codeAt_three] at hdecode
  obtain ⟨op, row, hlookup, hcases⟩ := decode_ok_cases hdecode
  obtain ⟨hop, hsound⟩ := lookup_sound hlookup
  have hdispatch : s.mem.read s.pc.toNat = op → step s = runForm row.form (afterFetch s op []) := by
    rintro rfl
    rw [step_of_atDispatch hat, dispatch_of_row, fetched_afterCall hplain0]
    rw [busValue_afterCall, afterCall_pc, busValue_of_plain hplain0]
    exact hlookup
  obtain ⟨hform, after, hbytes, _⟩ | ⟨k, b, hform, rfl, hbytes⟩ | ⟨k, l, u, hform, rfl, hbytes⟩ := hcases <;>
    simp only [List.cons.injEq] at hbytes
  · obtain ⟨hread, _⟩ := hbytes
    obtain ⟨hopcode, hoperand⟩ := hsound.bare hform
    rw [hdispatch hread, hform, hopcode, hop, hoperand]
    rfl
  · obtain ⟨hread, rfl, _⟩ := hbytes
    obtain ⟨hopcode, hoperand, _⟩ := hsound.byte hform (s.mem.read (s.pc + 1).toNat)
    rw [Instr.fetchedBytes, hoperand] at hreadable
    rw [hdispatch hread, hform, hopcode, hop, hoperand, runForm, fetch8_afterFetch op (hreadable 1 Nat.one_lt_two)]
  · obtain ⟨hread, rfl, rfl, _⟩ := hbytes
    obtain ⟨hopcode, hoperand, _⟩ :=
      hsound.word hform (joinBytes (s.mem.read (s.pc + 2).toNat) (s.mem.read (s.pc + 1).toNat))
    rw [loByte_joinBytes, hiByte_joinBytes] at hoperand
    rw [Instr.fetchedBytes, hoperand] at hreadable
    rw [hdispatch hread, hform, hopcode, hop, hoperand, runForm,
      fetch16_afterFetch op (hreadable 1 (by decide : 1 < 3)) (hreadable 2 (by decide : 2 < 3))]

end Sys2Proof.Machine
end

section
/-! PROOFS. Reset and what comes before it (R280-R287). -/

namespace Sys2Proof.Machine

open Sys2Proof.Safety

/-- Settles O50: the reset call, with and without automation. -/
theorem resetCallSetsTheCore : Obligations.ResetCallSetsTheCore := by
  intro s automation later hschedule
  have hstatus : pack false resetFlags = 0x24 := by decide
  refine ⟨_, step_of_call hschedule, ?_⟩
  cases automation with
  | true =>
    exact ⟨rfl, rfl, hstatus, rfl, rfl, rfl, rfl, rfl, rfl, rfl, rfl, rfl, rfl, rfl, rfl, rfl, rfl, rfl, rfl⟩
  | false =>
    exact ⟨rfl, rfl, hstatus, rfl, rfl, rfl, rfl, rfl, rfl, rfl, rfl, rfl, rfl, rfl, rfl, rfl, rfl, rfl, rfl⟩

/-- Settles O51: both sides compute to the same literal state. -/
theorem resetStateIsTheFirstReset : Obligations.ResetStateIsTheFirstReset := by
  refine ⟨rfl, ⟨reset_mem_wf, ?_⟩, rfl, rfl, ?_⟩
  · decide
  · decide

/-- Settles O52: the phase decides before anything else is looked at. -/
theorem tickBeforeResetIsRefused : Obligations.TickBeforeResetIsRefused := by
  intro s hphase htick
  rw [step_of_nextIsTick htick, tick, afterCall_phase, hphase]

end Sys2Proof.Machine
end
